-- ==== Sys2Proof/Word.lean ====
section
/-! DEFINITION. The two word widths of rustboy CORE (00_scope.md R5): 8-bit registers, 16-bit pairs and descriptors. -/

namespace Sys2Proof

/-- A register's contents (R5, R9): an unsigned 8-bit value, bit 0 the least significant (R8). -/
abbrev Byte := BitVec 8

/-- A pair view, a descriptor or the write data (R5, R7): an unsigned 16-bit value. -/
abbrev Word := BitVec 16

end Sys2Proof
end

