-- ==== Sys2Proof/Syntax.lean ====
section
/-! DEFINITION. The operations of 30_encoding.md R76 with their operands (R73), the names they use, and the
four host commands (R71). -/

namespace Sys2Proof

/-- The seven registers (10_state.md R21), in the order of the selector codes (30_encoding.md R74). -/
inductive Reg where
  | a | b | c | d | e | h | l
deriving DecidableEq, Repr

/-- What a pair selector can name (30_encoding.md R75). One table serves ADDHL (bc, de, hl, sp) and WR16
(bc, de, hl, af). -/
inductive Pair where
  | bc | de | hl | sp | af
deriving DecidableEq, Repr

/-- The four 16-bit views of the registers (10_state.md R25): the pairs the block can read and write. -/
inductive View where
  | bc | de | hl | af
deriving DecidableEq, Repr

/-- A bit index, 0 to 7 (30_encoding.md R78). -/
abbrev BitIndex := Fin 8

/-- The 30 operations (30_encoding.md R76), each with the operands of its form (R73). `resetBit` and `setBit` are
the spec's RESET and SET. -/
inductive Instr where
  | add (r : Reg) | adc (r : Reg) | sub (r : Reg) | sbc (r : Reg)
  | and (r : Reg) | or (r : Reg) | xor (r : Reg) | cp (r : Reg)
  | inc (r : Reg) | dec (r : Reg)
  | addhl (p : Pair)
  | ccf | scf | rra | rla | rrca | rrla | cpl | daa
  | bit (r : Reg) (n : BitIndex) | resetBit (r : Reg) (n : BitIndex) | setBit (r : Reg) (n : BitIndex)
  | srl (r : Reg) | rr (r : Reg) | rl (r : Reg) | rrc (r : Reg)
  | rlc (r : Reg) | sra (r : Reg) | sla (r : Reg) | swap (r : Reg)
deriving DecidableEq, Repr

/-- Why a descriptor word is illegal (30_encoding.md R80). The block itself records none of these names, only
cause 1 (60_exceptions.md R221); they are the decoder's (DESIGN CHOICE, log entry 6, safe). -/
inductive Illegal where
  | reservedBit    -- bit 7 or bit 3 is set
  | unknownOpcode  -- OPC 0x1E to 0xFF
  | strayIndex     -- IDX not 0 outside BIT, RESET, SET
  | straySelector  -- SEL not 0 in an operation with no operand
  | noRegister     -- register selector 7
  | noPair         -- ADDHL selector 4 to 7
deriving DecidableEq, Repr

/-- The four command codes of the port (30_encoding.md R71). -/
inductive CmdName where
  | idle | exec | wr8 | wr16
deriving DecidableEq, Repr

end Sys2Proof
end

