-- ==== Sys2Proof/WellFormed.lean ====
section
/-! DEFINITION. Which terms of `Instr` stand for an operation of the spec. The types rule out every other ill-formed
operand; the one check left is ADDHL's pair. -/

namespace Sys2Proof

/-- 30_encoding.md R75, 41_addhl.md R120: ADDHL takes BC, DE, HL or SP; "AF is not an operand of ADDHL". -/
def Pair.addhlOperand : Pair → Bool
  | .bc | .de | .hl | .sp => true
  | .af => false

/-- The term is one of the spec's descriptors (30_encoding.md R79). -/
def Instr.wellFormed : Instr → Bool
  | .addhl p => p.addhlOperand
  | .add _ | .adc _ | .sub _ | .sbc _ | .and _ | .or _ | .xor _ | .cp _ | .inc _ | .dec _ => true
  | .ccf | .scf | .rra | .rla | .rrca | .rrla | .cpl | .daa => true
  | .bit _ _ | .resetBit _ _ | .setBit _ _ => true
  | .srl _ | .rr _ | .rl _ | .rrc _ | .rlc _ | .sra _ | .sla _ | .swap _ => true

end Sys2Proof
end

