-- ==== Sys2Proof/Decode.lean ====
section
/-! DEFINITION. Descriptor words, selector codes and command codes to names, and back (30_encoding.md R71 to R82).
A descriptor is one 16-bit word presented in parallel and never split into bytes (20_memory.md R52). -/

namespace Sys2Proof

/-- 30_encoding.md R74: code 7 names no register. -/
def regOf (sel : BitVec 3) : Option Reg :=
  match sel.toNat with
  | 0 => some .a
  | 1 => some .b
  | 2 => some .c
  | 3 => some .d
  | 4 => some .e
  | 5 => some .h
  | 6 => some .l
  | _ => none

/-- 30_encoding.md R75: codes 5 to 7 name no pair. -/
def pairOf (sel : BitVec 3) : Option Pair :=
  match sel.toNat with
  | 0 => some .bc
  | 1 => some .de
  | 2 => some .hl
  | 3 => some .sp
  | 4 => some .af
  | _ => none

/-- The view a pair selector names for WR16 (30_encoding.md R75): SP is not stored in the block. -/
def Pair.view : Pair → Option View
  | .bc => some .bc
  | .de => some .de
  | .hl => some .hl
  | .af => some .af
  | .sp => none

/-- 30_encoding.md R75, R81: what `wsel` selects in WR16, none where it is illegal. -/
def viewOf (sel : BitVec 3) : Option View := (pairOf sel).bind Pair.view

/-- 30_encoding.md R71: all four codes are defined. -/
def cmdOf (cmd : BitVec 2) : CmdName :=
  match cmd.toNat with
  | 0 => .idle
  | 1 => .exec
  | 2 => .wr8
  | _ => .wr16

/-- An operation still without its operands, by operand form (30_encoding.md R73). -/
inductive Shape where
  | formN (i : Instr)
  | formR (op : Reg → Instr)
  | formP (op : Pair → Instr)
  | formB (op : Reg → BitIndex → Instr)

/-- The opcode map (30_encoding.md R76): none for the opcodes above 0x1D. -/
def shapeOf (opc : Nat) : Option Shape :=
  match opc with
  | 0x00 => some (.formR .add)
  | 0x01 => some (.formR .adc)
  | 0x02 => some (.formR .sub)
  | 0x03 => some (.formR .sbc)
  | 0x04 => some (.formR .and)
  | 0x05 => some (.formR .or)
  | 0x06 => some (.formR .xor)
  | 0x07 => some (.formR .cp)
  | 0x08 => some (.formR .inc)
  | 0x09 => some (.formR .dec)
  | 0x0A => some (.formP .addhl)
  | 0x0B => some (.formN .ccf)
  | 0x0C => some (.formN .scf)
  | 0x0D => some (.formN .rra)
  | 0x0E => some (.formN .rla)
  | 0x0F => some (.formN .rrca)
  | 0x10 => some (.formN .rrla)
  | 0x11 => some (.formN .cpl)
  | 0x12 => some (.formN .daa)
  | 0x13 => some (.formB .bit)
  | 0x14 => some (.formB .resetBit)
  | 0x15 => some (.formB .setBit)
  | 0x16 => some (.formR .srl)
  | 0x17 => some (.formR .rr)
  | 0x18 => some (.formR .rl)
  | 0x19 => some (.formR .rrc)
  | 0x1A => some (.formR .rlc)
  | 0x1B => some (.formR .sra)
  | 0x1C => some (.formR .sla)
  | 0x1D => some (.formR .swap)
  | _ => none

/-- 30_encoding.md R72: OPC = desc[15:8]. -/
def opcField (w : Word) : BitVec 8 := w.extractLsb' 8 8

/-- 30_encoding.md R72: IDX = desc[6:4]. -/
def idxField (w : Word) : BitVec 3 := w.extractLsb' 4 3

/-- 30_encoding.md R72: SEL = desc[2:0]. -/
def selField (w : Word) : BitVec 3 := w.extractLsb' 0 3

/-- The decoder of 30_encoding.md R82 over the legality test of R79, total on the 65536 words. -/
def decode (w : Word) : Except Illegal Instr :=
  if w.getLsbD 7 || w.getLsbD 3 then .error .reservedBit
  else
    match shapeOf (opcField w).toNat with
    | none => .error .unknownOpcode
    | some (.formN i) =>
      if idxField w ≠ 0#3 then .error .strayIndex
      else if selField w ≠ 0#3 then .error .straySelector
      else .ok i
    | some (.formR op) =>
      if idxField w ≠ 0#3 then .error .strayIndex
      else
        match regOf (selField w) with
        | some r => .ok (op r)
        | none => .error .noRegister
    | some (.formP op) =>
      if idxField w ≠ 0#3 then .error .strayIndex
      else
        match pairOf (selField w) with
        | some p => if p.addhlOperand then .ok (op p) else .error .noPair
        | none => .error .noPair
    | some (.formB op) =>
      match regOf (selField w) with
      | some r => .ok (op r (idxField w).toFin)
      | none => .error .noRegister

/-- The register codes (30_encoding.md R74). -/
def Reg.code : Reg → BitVec 3
  | .a => 0#3
  | .b => 1#3
  | .c => 2#3
  | .d => 3#3
  | .e => 4#3
  | .h => 5#3
  | .l => 6#3

/-- The pair codes (30_encoding.md R75). -/
def Pair.code : Pair → BitVec 3
  | .bc => 0#3
  | .de => 1#3
  | .hl => 2#3
  | .sp => 3#3
  | .af => 4#3

/-- The selector code by which WR16 names a view (30_encoding.md R75). -/
def View.code : View → BitVec 3
  | .bc => 0#3
  | .de => 1#3
  | .hl => 2#3
  | .af => 4#3

/-- The command codes (30_encoding.md R71). -/
def CmdName.code : CmdName → BitVec 2
  | .idle => 0#2
  | .exec => 1#2
  | .wr8 => 2#2
  | .wr16 => 3#2

/-- The layout D16 (30_encoding.md R72): OPC, 0, IDX, 0, SEL from bit 15 down. -/
def layout (opc : BitVec 8) (idx sel : BitVec 3) : Word := opc ++ 0#1 ++ idx ++ 0#1 ++ sel

/-- The descriptor word of an operation, from the patterns of 30_encoding.md R76. -/
def encode : Instr → Word
  | .add r => layout 0x00#8 0#3 r.code
  | .adc r => layout 0x01#8 0#3 r.code
  | .sub r => layout 0x02#8 0#3 r.code
  | .sbc r => layout 0x03#8 0#3 r.code
  | .and r => layout 0x04#8 0#3 r.code
  | .or r => layout 0x05#8 0#3 r.code
  | .xor r => layout 0x06#8 0#3 r.code
  | .cp r => layout 0x07#8 0#3 r.code
  | .inc r => layout 0x08#8 0#3 r.code
  | .dec r => layout 0x09#8 0#3 r.code
  | .addhl p => layout 0x0A#8 0#3 p.code
  | .ccf => layout 0x0B#8 0#3 0#3
  | .scf => layout 0x0C#8 0#3 0#3
  | .rra => layout 0x0D#8 0#3 0#3
  | .rla => layout 0x0E#8 0#3 0#3
  | .rrca => layout 0x0F#8 0#3 0#3
  | .rrla => layout 0x10#8 0#3 0#3
  | .cpl => layout 0x11#8 0#3 0#3
  | .daa => layout 0x12#8 0#3 0#3
  | .bit r n => layout 0x13#8 ⟨n⟩ r.code
  | .resetBit r n => layout 0x14#8 ⟨n⟩ r.code
  | .setBit r n => layout 0x15#8 ⟨n⟩ r.code
  | .srl r => layout 0x16#8 0#3 r.code
  | .rr r => layout 0x17#8 0#3 r.code
  | .rl r => layout 0x18#8 0#3 r.code
  | .rrc r => layout 0x19#8 0#3 r.code
  | .rlc r => layout 0x1A#8 0#3 r.code
  | .sra r => layout 0x1B#8 0#3 r.code
  | .sla r => layout 0x1C#8 0#3 r.code
  | .swap r => layout 0x1D#8 0#3 r.code

/-- The 16-bit word that a table row's bits stand for: `w` read as `nbits` bits, the bits above them 0. -/
def tableWord (nbits w : Nat) : Word := BitVec.ofNat 16 (w % 2 ^ nbits)

/-- The instruction the decoder reads from a row of `nbits` bits whose bits are `w`, numbered as
spec/opcode_table.json numbers them. Every descriptor is 16 bits wide, so a longer one is no descriptor. -/
def decodeTableWord (nbits w : Nat) : Option Instr :=
  if nbits ≤ 16 then (decode (tableWord nbits w)).toOption else none

end Sys2Proof
end

