-- ==== Sys2Proof/Config.lean ====
section
/-! DEFINITION. What is fixed for the machine (00_scope.md R5 to R7, 10_state.md R37). The spec has no
configuration option and leaves no value of the state open (93_implementation_defined.md), so there is no
free value here; its one open parameter, `sp_in`, is an input pin (R31) and stands in State. -/

namespace Sys2Proof.Config

/-- R5: how many operations the block has. -/
def operations : Nat := 30

/-- R79: how many of the 65536 descriptor words are legal. -/
def legalWords : Nat := 306

/-- R37: what A, B, C, D, E, H and L hold after reset (the spec's decision D8). -/
def resetByte : Byte := 0x00#8

end Sys2Proof.Config
end

