-- ==== Sys2Proof/Machine/State.lean ====
section
/-! DEFINITION. The state of rustboy CORE (10_state.md R20) as plain data, the input pins of the port (R31, R32,
30_encoding.md R70), the outputs (R35), and the state after reset (R37). -/

namespace Sys2Proof.Machine

/-- The flags register: four independent Booleans (10_state.md R27). -/
structure Flags where
  z : Bool  -- zero
  n : Bool  -- subtract
  h : Bool  -- half-carry
  c : Bool  -- carry
deriving DecidableEq, Repr

/-- The levels on the input pins at one rising edge (10_state.md R31, R32; 30_encoding.md R70). -/
structure Pins where
  rst   : Bool
  cmd   : BitVec 2
  desc  : Word
  wsel  : BitVec 3
  wdata : Word
  spIn  : Word
deriving DecidableEq, Repr

/-- All the state the block holds: 63 bits (10_state.md R20). -/
structure Block where
  a : Byte
  b : Byte
  c : Byte
  d : Byte
  e : Byte
  h : Byte
  l : Byte
  f : Flags
  fault : Bool          -- FAULT (R34)
  fcause : BitVec 2     -- FCAUSE (R34)
deriving DecidableEq, Repr

/-- The block with its inputs: `pins` is what the host holds on the port at the coming edge, `script` what it presents at the
edges after that, first to come first (70_reset_and_hazards.md R259). The spec makes the inputs arguments of
the step; a step of Host.Core has none, so they stand here (DESIGN CHOICE, log entry 1, safe for a claim over every
`pins` and `script`). -/
structure State extends Block where
  pins : Pins
  script : List Pins
deriving DecidableEq, Repr

/-- The output pins (10_state.md R35). -/
structure Outputs where
  a : Byte
  b : Byte
  c : Byte
  d : Byte
  e : Byte
  h : Byte
  l : Byte
  f : Byte
  zf : Bool
  nf : Bool
  hf : Bool
  cf : Bool
  fault : Bool
  fcause : BitVec 2
deriving DecidableEq, Repr

/-- Why an illegal command is illegal (60_exceptions.md R221). -/
inductive Cause where
  | illegalDescriptor     -- EXEC of a word that is not legal
  | illegalWriteSelector  -- WR8 or WR16 with a selector that names nothing
deriving DecidableEq, Repr

/-- The one fault of the block (60_exceptions.md R221). `step` raises no fault: it latches FAULT in the next
state, as 70_reset_and_hazards.md R255 says. -/
inductive Fault where
  /-- Raised by Safety's `strictStep` only, the view of 60_exceptions.md R226, when the next state has FAULT = 1. Safe: it stops
  where `step` goes on. -/
  | illegalCommand (fcause : BitVec 2)
deriving DecidableEq, Repr

/-- Why an instruction has no meaning. -/
inductive Refusal where
  /-- For an arm of `exec` without a meaning: raised by none, since every arm has one. Safe: it stops. -/
  | notModelled (mnemonic : String)
deriving DecidableEq, Repr

/-- The port at rest: IDLE, every signal 0. This is also what the model presents after a script's last tuple
(DESIGN CHOICE, log entry 2, unsafe: a real host may present anything). -/
def Pins.idle : Pins := ⟨false, 0#2, 0#16, 0#3, 0#16, 0#16⟩

/-- 10_state.md R37, 70_reset_and_hazards.md R250. -/
def Block.reset : Block where
  a := Config.resetByte
  b := Config.resetByte
  c := Config.resetByte
  d := Config.resetByte
  e := Config.resetByte
  h := Config.resetByte
  l := Config.resetByte
  f := ⟨false, false, false, false⟩
  fault := false
  fcause := 0#2

/-- The machine right after reset (R37), no command presented (log entry 2). -/
def State.reset : State where
  toBlock := Block.reset
  pins := Pins.idle
  script := []

end Sys2Proof.Machine
end

