-- ==== Sys2Proof/Machine/Alu.lean ====
section
/-! DEFINITION. The results of the datapath: each is the `res` of its rule's pseudocode, computed on integers and
narrowed at the end (00_scope.md R9). -/

namespace Sys2Proof.Machine

/-- A flag used as a value is 0 or 1 (00_scope.md R9). -/
def bitByte (b : Bool) : Byte := BitVec.ofNat 8 b.toNat

/-- The low nibble v[3:0] (00_scope.md R8). -/
def lowNibble (v : Byte) : Nat := v.toNat % 16

/-- 40_add_sub.md R101, R102; 43_incdec.md R140. -/
def addByte (a v : Byte) (cin : Bool) : Byte := BitVec.ofNat 8 (a.toNat + v.toNat + cin.toNat)

/-- 40_add_sub.md R103, R104; 43_incdec.md R141. -/
def subByte (a v : Byte) (bin : Bool) : Byte :=
  BitVec.ofInt 8 ((a.toNat : Int) - v.toNat - bin.toNat)

/-- 41_addhl.md R121. -/
def addWord (hl v : Word) : Word := BitVec.ofNat 16 (hl.toNat + v.toNat)

/-- The mask 1 << n of a bit index (30_encoding.md R78). -/
def bitMask (n : BitIndex) : Byte := 1#8 <<< n.val

/-- Rotate or shift right by one, `top` entering bit 7 (46_shift_rotate.md R181, R182, R184, R186). -/
def shiftRight (top : Bool) (v : Byte) : Byte := (bitByte top <<< 7) ||| (v >>> 1)

/-- Rotate or shift left by one, `bottom` entering bit 0 (46_shift_rotate.md R183, R185, R187). -/
def shiftLeft (bottom : Bool) (v : Byte) : Byte := (v <<< 1) ||| bitByte bottom

/-- 46_shift_rotate.md R188. -/
def swapNibbles (v : Byte) : Byte := ((v &&& 0x0F#8) <<< 4) ||| (v >>> 4)

/-- The correction DAA adds after an addition and subtracts after a subtraction (44_flag_acc_ops.md R158). -/
def daaAdjust (a : Byte) (f : Flags) : Nat :=
  if f.n then
    if f.c && f.h then 0x66 else if f.c then 0x60 else if f.h then 0x06 else 0x00
  else
    (if f.c || decide (a.toNat > 0x99) then 0x60 else 0) + (if f.h || decide (lowNibble a > 0x09) then 0x06 else 0)

/-- 44_flag_acc_ops.md R158: DAA's new accumulator. -/
def daaByte (a : Byte) (f : Flags) : Byte :=
  if f.n then BitVec.ofInt 8 ((a.toNat : Int) - daaAdjust a f) else BitVec.ofNat 8 (a.toNat + daaAdjust a f)

/-- 44_flag_acc_ops.md R158: DAA's new carry. -/
def daaCarry (a : Byte) (f : Flags) : Bool :=
  if f.n then f.c else f.c || decide (a.toNat > 0x99)

end Sys2Proof.Machine
end

