-- ==== Sys2Proof/Machine/Flags.lean ====
section
/-! DEFINITION. The packed form of the flags (10_state.md R27, R28) and the new flags of every family. An operation that writes the
flags replaces all four at once (R29); a flag its rule calls unchanged is a copy of the old one. -/

namespace Sys2Proof.Machine

/-- 10_state.md R27: bit 7 zero, bit 6 subtract, bit 5 half-carry, bit 4 carry, bits 3 to 0 always 0. -/
def Flags.toByte (f : Flags) : Byte :=
  BitVec.ofNat 8 (f.z.toNat * 128 + f.n.toNat * 64 + f.h.toNat * 32 + f.c.toNat * 16)

/-- 10_state.md R28: bits 3 to 0 are ignored. -/
def Flags.fromByte (v : Byte) : Flags := ⟨v.getLsbD 7, v.getLsbD 6, v.getLsbD 5, v.getLsbD 4⟩

/-- 40_add_sub.md R101, R102. -/
def addFlags (a v : Byte) (cin : Bool) : Flags where
  z := decide (addByte a v cin = 0#8)
  n := false
  h := decide (lowNibble a + lowNibble v + cin.toNat > 0xF)
  c := decide (a.toNat + v.toNat + cin.toNat > 255)

/-- 40_add_sub.md R103 to R105; the borrow-in stands on the right of both comparisons (R104). -/
def subFlags (a v : Byte) (bin : Bool) : Flags where
  z := decide (subByte a v bin = 0#8)
  n := true
  h := decide (lowNibble a < lowNibble v + bin.toNat)
  c := decide (a.toNat < v.toNat + bin.toNat)

/-- 43_incdec.md R140, R141: the family's flags, the carry copied. -/
def keepCarry (old new : Flags) : Flags := { new with c := old.c }

/-- 41_addhl.md R121: all four, the zero flag of the 16-bit result among them. -/
def addWordFlags (hl v : Word) : Flags where
  z := decide (addWord hl v = 0#16)
  n := false
  h := decide (hl.toNat % 4096 + v.toNat % 4096 > 0xFFF)
  c := decide (hl.toNat + v.toNat > 65535)

/-- 42_bitwise.md R130 to R132: `half` is 1 for AND and 0 for OR and XOR. -/
def logicFlags (res : Byte) (half : Bool) : Flags where
  z := decide (res = 0#8)
  n := false
  h := half
  c := false

/-- 46_shift_rotate.md R180: z from the result, c the bit shifted out (0 for SWAP). -/
def shiftFlags (res : Byte) (out : Bool) : Flags where
  z := decide (res = 0#8)
  n := false
  h := false
  c := out

/-- 44_flag_acc_ops.md R152 to R155: the accumulator rotates force z = 0. -/
def accRotateFlags (out : Bool) : Flags := ⟨false, false, false, out⟩

/-- 44_flag_acc_ops.md R150, R151: z kept, n and h cleared, c given. -/
def carryFlags (old : Flags) (carry : Bool) : Flags := ⟨old.z, false, false, carry⟩

/-- 44_flag_acc_ops.md R157: z and c kept, not computed. -/
def cplFlags (old : Flags) : Flags := ⟨old.z, true, true, old.c⟩

/-- 44_flag_acc_ops.md R158. -/
def daaFlags (a : Byte) (f : Flags) : Flags := ⟨decide (daaByte a f = 0#8), f.n, false, daaCarry a f⟩

/-- 45_bit_ops.md R170: z is the complement of the tested bit. -/
def bitFlags (v : Byte) (n : BitIndex) (old : Flags) : Flags :=
  ⟨decide (v &&& bitMask n = 0#8), false, true, old.c⟩

end Sys2Proof.Machine
end

