-- ==== Sys2Proof/Machine/Ops.lean ====
section
/-! DEFINITION. The named operations over the state: the register-file accessors (10_state.md R24 to R26), the flags
write (R29), taking the one fault (60_exceptions.md R221), reset, which alone undoes it (70_reset_and_hazards.md R250), the
outputs (R35), and the passage to the next input tuple. -/

namespace Sys2Proof.Machine

/-- `R[r]`, the source's read8 (10_state.md R24). -/
def State.read8 (s : State) : Reg → Byte
  | .a => s.a
  | .b => s.b
  | .c => s.c
  | .d => s.d
  | .e => s.e
  | .h => s.h
  | .l => s.l

/-- `R[r] <- v`, the source's write8 (10_state.md R24): no flag changes. -/
def State.write8 (s : State) (r : Reg) (v : Byte) : State :=
  match r with
  | .a => { s with a := v }
  | .b => { s with b := v }
  | .c => { s with c := v }
  | .d => { s with d := v }
  | .e => { s with e := v }
  | .h => { s with h := v }
  | .l => { s with l := v }

/-- `F <- (z, n, h, c)`: all four at once (10_state.md R29). -/
def State.setFlags (s : State) (f : Flags) : State := { s with f := f }

/-- w[15:8], the first-named register of a pair (20_memory.md R52). -/
def hiByte (w : Word) : Byte := w.extractLsb' 8 8

/-- w[7:0], the second-named register of a pair (20_memory.md R52). -/
def loByte (w : Word) : Byte := w.extractLsb' 0 8

/-- `RR[p]`, the source's read16 (10_state.md R25): high byte first. -/
def State.read16 (s : State) : View → Word
  | .bc => s.b ++ s.c
  | .de => s.d ++ s.e
  | .hl => s.h ++ s.l
  | .af => s.a ++ s.f.toByte

/-- `RR[p] <- w`, the source's write16 (10_state.md R26): both halves together. A write of AF drops bits 3 to 0. -/
def State.write16 (s : State) (p : View) (w : Word) : State :=
  match p with
  | .bc => { s with b := hiByte w, c := loByte w }
  | .de => { s with d := hiByte w, e := loByte w }
  | .hl => { s with h := hiByte w, l := loByte w }
  | .af => { s with a := hiByte w, f := Flags.fromByte (loByte w) }

/-- The code FCAUSE takes (60_exceptions.md R221): 0 is no fault, 3 is never produced. -/
def Cause.code : Cause → BitVec 2
  | .illegalDescriptor => 1#2
  | .illegalWriteSelector => 2#2

/-- `raise IllegalCommand(cause)` (60_exceptions.md R221): FAULT and FCAUSE and nothing else. There is no vector,
saved state or mode (R224), and no return (R225). -/
def raiseIllegal (cause : Cause) (s : State) : State := { s with fault := true, fcause := cause.code }

/-- 70_reset_and_hazards.md R250: the only way out of the faulted state. The host's inputs are not the block's to
reset. -/
def resetBlock (s : State) : State := { s with toBlock := Block.reset }

/-- The host's next input tuple comes onto the pins; after the last one the port is at rest (log entry 2). -/
def presentNext (s : State) : State :=
  match s.script with
  | [] => { s with pins := Pins.idle }
  | p :: rest => { s with pins := p, script := rest }

/-- The output pins, always the current state (10_state.md R35). -/
def State.outputs (s : State) : Outputs where
  a := s.a
  b := s.b
  c := s.c
  d := s.d
  e := s.e
  h := s.h
  l := s.l
  f := s.f.toByte
  zf := s.f.z
  nf := s.f.n
  hf := s.f.h
  cf := s.f.c
  fault := s.fault
  fcause := s.fcause

/-- How the host forms read8 from the outputs (47_host_access.md R203). -/
def Outputs.read8 (o : Outputs) : Reg → Byte
  | .a => o.a
  | .b => o.b
  | .c => o.c
  | .d => o.d
  | .e => o.e
  | .h => o.h
  | .l => o.l

/-- How the host forms read16 from the outputs (47_host_access.md R203). -/
def Outputs.read16 (o : Outputs) : View → Word
  | .bc => o.b ++ o.c
  | .de => o.d ++ o.e
  | .hl => o.h ++ o.l
  | .af => o.a ++ o.f

/-- An operation that writes one register and all the flags in one step (20_memory.md R54). -/
def writeBoth (r : Reg) (res : Byte) (f : Flags) (s : State) : Host.Outcome State Fault Refusal :=
  .next ((s.write8 r res).setFlags f)

/-- An operation that writes the flags and no register. -/
def writeFlags (f : Flags) (s : State) : Host.Outcome State Fault Refusal := .next (s.setFlags f)

/-- An operation that writes one register and leaves the flags. -/
def writeReg (r : Reg) (res : Byte) (s : State) : Host.Outcome State Fault Refusal := .next (s.write8 r res)

end Sys2Proof.Machine
end

