-- ==== Sys2Proof/Machine/Operands.lean ====
section
/-! DEFINITION. The operand forms (30_encoding.md R73, R78). Form R and form B read a register with `State.read8`; the bit
index gives the mask `bitMask`; form N has no operand. What is left is the pair operand of form P. -/

namespace Sys2Proof.Machine

/-- ADDHL's operand (41_addhl.md R120): a pair view, or the pin `sp_in` for SP. AF is no operand. -/
def pairOperand (s : State) : Pair → Option Word
  | .bc => some (s.read16 .bc)
  | .de => some (s.read16 .de)
  | .hl => some (s.read16 .hl)
  | .sp => some s.pins.spIn
  | .af => none

end Sys2Proof.Machine
end

