-- ==== Sys2Proof/Machine/AddHl.lean ====
section
/-! DEFINITION. ADDHL (41_addhl.md R120, R121). -/

namespace Sys2Proof.Machine

/-- 41_addhl.md R121: H and L together, and all four flags. `addhl af` is no operation and no word decodes to it; as a term it is
treated as an illegal descriptor (DESIGN CHOICE, log entry 5, safe). -/
def execAddhl (p : Pair) (s : State) : Host.Outcome State Fault Refusal :=
  match pairOperand s p with
  | some v => .next ((s.write16 .hl (addWord (s.read16 .hl) v)).setFlags (addWordFlags (s.read16 .hl) v))
  | none => .next (raiseIllegal .illegalDescriptor s)

end Sys2Proof.Machine
end

