-- ==== Sys2Proof/Machine/AddSub.lean ====
section
/-! DEFINITION. ADD, ADC, SUB, SBC, CP (40_add_sub.md R100 to R105): A and one register. -/

namespace Sys2Proof.Machine

/-- 40_add_sub.md R101. -/
def execAdd (r : Reg) (s : State) : Host.Outcome State Fault Refusal :=
  writeBoth .a (addByte s.a (s.read8 r) false) (addFlags s.a (s.read8 r) false) s

/-- 40_add_sub.md R102: the old carry is added in. -/
def execAdc (r : Reg) (s : State) : Host.Outcome State Fault Refusal :=
  writeBoth .a (addByte s.a (s.read8 r) s.f.c) (addFlags s.a (s.read8 r) s.f.c) s

/-- 40_add_sub.md R103. -/
def execSub (r : Reg) (s : State) : Host.Outcome State Fault Refusal :=
  writeBoth .a (subByte s.a (s.read8 r) false) (subFlags s.a (s.read8 r) false) s

/-- 40_add_sub.md R104: the old carry is the borrow-in. -/
def execSbc (r : Reg) (s : State) : Host.Outcome State Fault Refusal :=
  writeBoth .a (subByte s.a (s.read8 r) s.f.c) (subFlags s.a (s.read8 r) s.f.c) s

/-- 40_add_sub.md R105: SUB's flags, no borrow-in, no register written. -/
def execCp (r : Reg) (s : State) : Host.Outcome State Fault Refusal :=
  writeFlags (subFlags s.a (s.read8 r) false) s

end Sys2Proof.Machine
end

