-- ==== Sys2Proof/Machine/BitOps.lean ====
section
/-! DEFINITION. BIT, RESET, SET (45_bit_ops.md R170 to R172). -/

namespace Sys2Proof.Machine

/-- 45_bit_ops.md R170: no register is written. -/
def execBit (r : Reg) (n : BitIndex) (s : State) : Host.Outcome State Fault Refusal :=
  writeFlags (bitFlags (s.read8 r) n s.f) s

/-- 45_bit_ops.md R171: the flags are not written. -/
def execResetBit (r : Reg) (n : BitIndex) (s : State) : Host.Outcome State Fault Refusal :=
  writeReg r (s.read8 r &&& ~~~(bitMask n)) s

/-- 45_bit_ops.md R172: OR, not the AND of the original program (90_conflicts.md C6). -/
def execSetBit (r : Reg) (n : BitIndex) (s : State) : Host.Outcome State Fault Refusal :=
  writeReg r (s.read8 r ||| bitMask n) s

end Sys2Proof.Machine
end

