-- ==== Sys2Proof/Machine/Bitwise.lean ====
section
/-! DEFINITION. AND, OR, XOR (42_bitwise.md R130 to R132): A and one register. -/

namespace Sys2Proof.Machine

/-- 42_bitwise.md R130: h is always 1. -/
def execAnd (r : Reg) (s : State) : Host.Outcome State Fault Refusal :=
  writeBoth .a (s.a &&& s.read8 r) (logicFlags (s.a &&& s.read8 r) true) s

/-- 42_bitwise.md R131. -/
def execOr (r : Reg) (s : State) : Host.Outcome State Fault Refusal :=
  writeBoth .a (s.a ||| s.read8 r) (logicFlags (s.a ||| s.read8 r) false) s

/-- 42_bitwise.md R132. -/
def execXor (r : Reg) (s : State) : Host.Outcome State Fault Refusal :=
  writeBoth .a (s.a ^^^ s.read8 r) (logicFlags (s.a ^^^ s.read8 r) false) s

end Sys2Proof.Machine
end

