-- ==== Sys2Proof/Machine/FlagAcc.lean ====
section
/-! DEFINITION. The operations with no operand (44_flag_acc_ops.md R150 to R160): on the flags, or on A and the flags. -/

namespace Sys2Proof.Machine

/-- 44_flag_acc_ops.md R150. -/
def execCcf (s : State) : Host.Outcome State Fault Refusal := writeFlags (carryFlags s.f (!s.f.c)) s

/-- 44_flag_acc_ops.md R151. -/
def execScf (s : State) : Host.Outcome State Fault Refusal := writeFlags (carryFlags s.f true) s

/-- 44_flag_acc_ops.md R152: right through the carry. -/
def execRra (s : State) : Host.Outcome State Fault Refusal :=
  writeBoth .a (shiftRight s.f.c s.a) (accRotateFlags (s.a.getLsbD 0)) s

/-- 44_flag_acc_ops.md R153: left through the carry. -/
def execRla (s : State) : Host.Outcome State Fault Refusal :=
  writeBoth .a (shiftLeft s.f.c s.a) (accRotateFlags (s.a.getLsbD 7)) s

/-- 44_flag_acc_ops.md R154: right, circular. -/
def execRrca (s : State) : Host.Outcome State Fault Refusal :=
  writeBoth .a (shiftRight (s.a.getLsbD 0) s.a) (accRotateFlags (s.a.getLsbD 0)) s

/-- 44_flag_acc_ops.md R155: left, circular. -/
def execRrla (s : State) : Host.Outcome State Fault Refusal :=
  writeBoth .a (shiftLeft (s.a.getLsbD 7) s.a) (accRotateFlags (s.a.getLsbD 7)) s

/-- 44_flag_acc_ops.md R157. -/
def execCpl (s : State) : Host.Outcome State Fault Refusal := writeBoth .a (~~~s.a) (cplFlags s.f) s

/-- 44_flag_acc_ops.md R158: total over all accumulators and flags. -/
def execDaa (s : State) : Host.Outcome State Fault Refusal := writeBoth .a (daaByte s.a s.f) (daaFlags s.a s.f) s

end Sys2Proof.Machine
end

