-- ==== Sys2Proof/Machine/IncDec.lean ====
section
/-! DEFINITION. INC and DEC of the named register, carry copied (43_incdec.md R140 to R142). -/

namespace Sys2Proof.Machine

/-- 43_incdec.md R140. -/
def execInc (r : Reg) (s : State) : Host.Outcome State Fault Refusal :=
  writeBoth r (addByte (s.read8 r) 1#8 false) (keepCarry s.f (addFlags (s.read8 r) 1#8 false)) s

/-- 43_incdec.md R141. -/
def execDec (r : Reg) (s : State) : Host.Outcome State Fault Refusal :=
  writeBoth r (subByte (s.read8 r) 1#8 false) (keepCarry s.f (subFlags (s.read8 r) 1#8 false)) s

end Sys2Proof.Machine
end

