-- ==== Sys2Proof/Machine/ShiftRotate.lean ====
section
/-! DEFINITION. The shifts and rotates of any register (46_shift_rotate.md R180 to R188), by one bit, z from the result. -/

namespace Sys2Proof.Machine

/-- What the group shares (46_shift_rotate.md R180): the result back to the same register, the flags from it and the bit
shifted out. -/
def shiftReg (r : Reg) (res : Byte) (out : Bool) (s : State) : Host.Outcome State Fault Refusal :=
  writeBoth r res (shiftFlags res out) s

/-- 46_shift_rotate.md R181. -/
def execSrl (r : Reg) (s : State) : Host.Outcome State Fault Refusal :=
  shiftReg r (shiftRight false (s.read8 r)) ((s.read8 r).getLsbD 0) s

/-- 46_shift_rotate.md R182. -/
def execRr (r : Reg) (s : State) : Host.Outcome State Fault Refusal :=
  shiftReg r (shiftRight s.f.c (s.read8 r)) ((s.read8 r).getLsbD 0) s

/-- 46_shift_rotate.md R183. -/
def execRl (r : Reg) (s : State) : Host.Outcome State Fault Refusal :=
  shiftReg r (shiftLeft s.f.c (s.read8 r)) ((s.read8 r).getLsbD 7) s

/-- 46_shift_rotate.md R184. -/
def execRrc (r : Reg) (s : State) : Host.Outcome State Fault Refusal :=
  shiftReg r (shiftRight ((s.read8 r).getLsbD 0) (s.read8 r)) ((s.read8 r).getLsbD 0) s

/-- 46_shift_rotate.md R185. -/
def execRlc (r : Reg) (s : State) : Host.Outcome State Fault Refusal :=
  shiftReg r (shiftLeft ((s.read8 r).getLsbD 7) (s.read8 r)) ((s.read8 r).getLsbD 7) s

/-- 46_shift_rotate.md R186: bit 7 keeps its value. -/
def execSra (r : Reg) (s : State) : Host.Outcome State Fault Refusal :=
  shiftReg r (shiftRight ((s.read8 r).getLsbD 7) (s.read8 r)) ((s.read8 r).getLsbD 0) s

/-- 46_shift_rotate.md R187. -/
def execSla (r : Reg) (s : State) : Host.Outcome State Fault Refusal :=
  shiftReg r (shiftLeft false (s.read8 r)) ((s.read8 r).getLsbD 7) s

/-- 46_shift_rotate.md R188: c is always 0. -/
def execSwap (r : Reg) (s : State) : Host.Outcome State Fault Refusal :=
  shiftReg r (swapNibbles (s.read8 r)) false s

end Sys2Proof.Machine
end

