-- ==== Sys2Proof/Machine/Dispatch.lean ====
section
/-! DEFINITION. One arm per operation (30_encoding.md R76), each a direct call of its meaning. -/

namespace Sys2Proof.Machine

/-- EXEC of a decoded operation (70_reset_and_hazards.md R255). -/
def exec (i : Instr) (s : State) : Host.Outcome State Fault Refusal :=
  match i with
  | .add r => Sys2Proof.Machine.execAdd r s
  | .adc r => Sys2Proof.Machine.execAdc r s
  | .sub r => Sys2Proof.Machine.execSub r s
  | .sbc r => Sys2Proof.Machine.execSbc r s
  | .and r => Sys2Proof.Machine.execAnd r s
  | .or r => Sys2Proof.Machine.execOr r s
  | .xor r => Sys2Proof.Machine.execXor r s
  | .cp r => Sys2Proof.Machine.execCp r s
  | .inc r => Sys2Proof.Machine.execInc r s
  | .dec r => Sys2Proof.Machine.execDec r s
  | .addhl p => Sys2Proof.Machine.execAddhl p s
  | .ccf => Sys2Proof.Machine.execCcf s
  | .scf => Sys2Proof.Machine.execScf s
  | .rra => Sys2Proof.Machine.execRra s
  | .rla => Sys2Proof.Machine.execRla s
  | .rrca => Sys2Proof.Machine.execRrca s
  | .rrla => Sys2Proof.Machine.execRrla s
  | .cpl => Sys2Proof.Machine.execCpl s
  | .daa => Sys2Proof.Machine.execDaa s
  | .bit r n => Sys2Proof.Machine.execBit r n s
  | .resetBit r n => Sys2Proof.Machine.execResetBit r n s
  | .setBit r n => Sys2Proof.Machine.execSetBit r n s
  | .srl r => Sys2Proof.Machine.execSrl r s
  | .rr r => Sys2Proof.Machine.execRr r s
  | .rl r => Sys2Proof.Machine.execRl r s
  | .rrc r => Sys2Proof.Machine.execRrc r s
  | .rlc r => Sys2Proof.Machine.execRlc r s
  | .sra r => Sys2Proof.Machine.execSra r s
  | .sla r => Sys2Proof.Machine.execSla r s
  | .swap r => Sys2Proof.Machine.execSwap r s

end Sys2Proof.Machine
end

