-- ==== Sys2Proof/Machine/HostAccess.lean ====
section
/-! DEFINITION. The host commands that are not EXEC (47_host_access.md R200 to R202). -/

namespace Sys2Proof.Machine

/-- 47_host_access.md R200: nothing changes. -/
def cmdIdle (s : State) : Host.Outcome State Fault Refusal := .next s

/-- 47_host_access.md R201: `wdata[15:8]` is dropped. -/
def cmdWr8 (s : State) : Host.Outcome State Fault Refusal :=
  match regOf s.pins.wsel with
  | some r => writeReg r (loByte s.pins.wdata) s
  | none => .next (raiseIllegal .illegalWriteSelector s)

/-- 47_host_access.md R202. -/
def cmdWr16 (s : State) : Host.Outcome State Fault Refusal :=
  match viewOf s.pins.wsel with
  | some p => .next (s.write16 p s.pins.wdata)
  | none => .next (raiseIllegal .illegalWriteSelector s)

end Sys2Proof.Machine
end

