-- ==== Sys2Proof/Machine/Clock.lean ====
section
/-! DEFINITION. What one rising edge does with the inputs on the pins (70_reset_and_hazards.md R255), and how EXEC of a word is put on
the pins. -/

namespace Sys2Proof.Machine

/-- EXEC (30_encoding.md R71, R80): the operation the word names, or IllegalCommand with cause 1. -/
def cmdExec (s : State) : Host.Outcome State Fault Refusal :=
  match decode s.pins.desc with
  | .ok i => exec i s
  | .error _ => .next (raiseIllegal .illegalDescriptor s)

/-- The command on the port (30_encoding.md R71). -/
def runCommand (s : State) : Host.Outcome State Fault Refusal :=
  match cmdOf s.pins.cmd with
  | .idle => cmdIdle s
  | .exec => cmdExec s
  | .wr8 => cmdWr8 s
  | .wr16 => cmdWr16 s

/-- One edge, in the order of 60_exceptions.md R223: reset, then the frozen state (R224), then the command. -/
def clockEdge (s : State) : Host.Outcome State Fault Refusal :=
  if s.pins.rst then .next (resetBlock s)
  else if s.fault then .next s
  else runCommand s

/-- The edge and then the host's next inputs on the pins. -/
def edgeThenPresent (s : State) : Host.Outcome State Fault Refusal :=
  match clockEdge s with
  | .next t => .next (presentNext t)
  | .fault r => .fault r
  | .refused r => .refused r

/-- EXEC of `w` on the pins, `sp_in` as it was (30_encoding.md R70). -/
def presentExec (w : Word) (s : State) : State :=
  { s with pins := { rst := false, cmd := CmdName.exec.code, desc := w, wsel := 0#3, wdata := 0#16, spIn := s.pins.spIn } }

end Sys2Proof.Machine
end

