-- ==== Sys2Proof/Machine/Step.lean ====
section
/-! DEFINITION. The step, one rising edge of `clk` (70_reset_and_hazards.md R255), and the word the host asks it to run. -/

namespace Sys2Proof.Machine

/-- One rising edge (R255), after which the pins hold the host's next input tuple. -/
def step (s : State) : Host.Outcome State Fault Refusal := edgeThenPresent s

/-- The block fetches nothing (20_memory.md R59): its next instruction is the descriptor on the pins. So EXEC of the word is presented at the
coming edge, `rst` low; the block's state is not touched (log entry 4). -/
def State.withFetchWord (s : State) (nbits w : Nat) : State := presentExec (tableWord nbits w) s

end Sys2Proof.Machine
end

