-- ==== Sys2Proof/Safety.lean ====
section
/-! DEFINITION. What a safe run is (60_exceptions.md R226, 70_reset_and_hazards.md R259), and the words the claims use:
runs over input tuples, and the tables of the spec that speak of the whole operation set. -/

namespace Sys2Proof.Machine

/-! ### Safe runs -/

/-- The step as 60_exceptions.md R226 asks a model to show it: IllegalCommand is a fault outcome, and a state with FAULT = 1
never a result. `step` itself latches FAULT and goes on, as R255 says (log entry 3). -/
def strictStep (s : State) : Host.Outcome State Fault Refusal :=
  match step s with
  | .next t => if t.fault then .fault (.illegalCommand t.fcause) else .next t
  | .fault r => .fault r
  | .refused r => .refused r

/-- FAULT and FCAUSE agree (10_state.md R34, 60_exceptions.md R221): FCAUSE is 0 exactly while FAULT is 0, and never 3. -/
def FaultWellFormed (s : State) : Prop :=
  (s.fault = false ↔ s.fcause = 0#2) ∧ s.fcause ≠ 3#2

/-! ### Runs -/

/-- The host is about to present the tuples `ins`, one per edge (70_reset_and_hazards.md R259). -/
def load (ins : List Pins) (s : State) : State :=
  match ins with
  | [] => { s with pins := Pins.idle, script := [] }
  | p :: rest => { s with pins := p, script := rest }

/-- The block after the tuples `ins` (70_reset_and_hazards.md R259): one step for each. -/
def runInputs (ins : List Pins) (s : State) : Host.Outcome State Fault Refusal :=
  Sys2Proof.core.run ins.length (load ins s)

/-- EXEC of each operation in turn, without the port. -/
def execList : List Instr → State → Host.Outcome State Fault Refusal
  | [], s => .next s
  | i :: rest, s =>
    match exec i s with
    | .next t => execList rest t
    | .fault r => .fault r
    | .refused r => .refused r

/-! ### Descriptor words as numbers -/

/-- 30_encoding.md R72: "As a number, desc = OPC * 256 + IDX * 16 + SEL". -/
def descWord (opc idx sel : Nat) : Word := BitVec.ofNat 16 (opc * 256 + idx * 16 + sel)

/-- The operand forms of 30_encoding.md R73. -/
inductive Form where
  | n | r | p | b
deriving DecidableEq, Repr

/-- `form(opc)` of 30_encoding.md R76, for the opcodes up to 0x1D. -/
def formOf (opc : Nat) : Form :=
  if opc = 0x0A then .p
  else if 0x0B ≤ opc ∧ opc ≤ 0x12 then .n
  else if 0x13 ≤ opc ∧ opc ≤ 0x15 then .b
  else .r

/-- `legal(desc)` of 30_encoding.md R79, on the descriptor as a number. -/
def legal (w : Word) : Bool :=
  let v := w.toNat
  let opc := v / 256
  let idx := v / 16 % 8
  let sel := v % 8
  decide (v / 128 % 2 = 0 ∧ v / 8 % 2 = 0 ∧ opc ≤ 0x1D ∧
    ((formOf opc = .n ∧ idx = 0 ∧ sel = 0) ∨ (formOf opc = .r ∧ idx = 0 ∧ sel ≤ 6) ∨
      (formOf opc = .p ∧ idx = 0 ∧ sel ≤ 3) ∨ (formOf opc = .b ∧ sel ≤ 6)))

/-- When a command raises IllegalCommand, by the bits of `cmd`, `desc` and `wsel` alone (60_exceptions.md R221), and the code
FCAUSE then takes. -/
def illegalCause (p : Pins) : Option (BitVec 2) :=
  if p.cmd = 1#2 ∧ legal p.desc = false then some 1#2
  else if p.cmd = 2#2 ∧ p.wsel = 7#3 then some 2#2
  else if p.cmd = 3#2 ∧ (p.wsel = 3#3 ∨ p.wsel = 5#3 ∨ p.wsel = 6#3 ∨ p.wsel = 7#3) then some 2#2
  else none

/-- The fault latch after one tuple, computed without the registers and flags (60_exceptions.md R222 to R225). -/
def latchAfter (latch : Bool × BitVec 2) (p : Pins) : Bool × BitVec 2 :=
  if p.rst then (false, 0#2)
  else if latch.1 then latch
  else
    match illegalCause p with
    | some cause => (true, cause)
    | none => latch

/-! ### Tables over the operation set -/

/-- The registers an operation writes (10_state.md R22). -/
def destRegs : Instr → List Reg
  | .add _ | .adc _ | .sub _ | .sbc _ | .and _ | .or _ | .xor _ => [.a]
  | .rra | .rla | .rrca | .rrla | .cpl | .daa => [.a]
  | .cp _ | .bit _ _ | .ccf | .scf => []
  | .addhl _ => [.h, .l]
  | .inc r | .dec r | .resetBit r _ | .setBit r _ => [r]
  | .srl r | .rr r | .rl r | .rrc r | .rlc r | .sra r | .sla r | .swap r => [r]

/-- The flags an operation leaves unchanged: true where the table of 10_state.md R30 has "=". -/
def keptFlags : Instr → Flags
  | .inc _ | .dec _ | .bit _ _ => ⟨false, false, false, true⟩
  | .ccf | .scf => ⟨true, false, false, false⟩
  | .cpl => ⟨true, false, false, true⟩
  | .daa => ⟨false, true, false, false⟩
  | .resetBit _ _ | .setBit _ _ => ⟨true, true, true, true⟩
  | .add _ | .adc _ | .sub _ | .sbc _ | .and _ | .or _ | .xor _ | .cp _ | .addhl _ => ⟨false, false, false, false⟩
  | .rra | .rla | .rrca | .rrla => ⟨false, false, false, false⟩
  | .srl _ | .rr _ | .rl _ | .rrc _ | .rlc _ | .sra _ | .sla _ | .swap _ => ⟨false, false, false, false⟩

/-- The flags whose old values an operation's results depend on: the last column of the table of 10_state.md R30, less the flags
that are only copied. -/
def readFlags : Instr → Flags
  | .adc _ | .sbc _ | .ccf | .rra | .rla | .rr _ | .rl _ => ⟨false, false, false, true⟩
  | .daa => ⟨false, true, true, true⟩
  | .add _ | .sub _ | .cp _ | .addhl _ | .and _ | .or _ | .xor _ | .inc _ | .dec _ => ⟨false, false, false, false⟩
  | .scf | .rrca | .rrla | .cpl | .bit _ _ | .resetBit _ _ | .setBit _ _ => ⟨false, false, false, false⟩
  | .srl _ | .rrc _ | .rlc _ | .sra _ | .sla _ | .swap _ => ⟨false, false, false, false⟩

/-- The two flag states agree wherever the mask is true. -/
def Flags.agreeOn (mask f g : Flags) : Prop :=
  (mask.z = true → f.z = g.z) ∧ (mask.n = true → f.n = g.n) ∧ (mask.h = true → f.h = g.h) ∧ (mask.c = true → f.c = g.c)

/-- The two flag states agree wherever the mask is false. -/
def Flags.agreeOff (mask f g : Flags) : Prop :=
  (mask.z = false → f.z = g.z) ∧ (mask.n = false → f.n = g.n) ∧ (mask.h = false → f.h = g.h) ∧
    (mask.c = false → f.c = g.c)

/-- Everything but the registers and the flags is the same in both states. -/
def SameOutsideRegs (s t : State) : Prop :=
  t.fault = s.fault ∧ t.fcause = s.fcause ∧ t.pins = s.pins ∧ t.script = s.script

/-- The byte whose nibbles are the two decimal digits of `n` (44_flag_acc_ops.md R161), for n below 100. -/
def bcdByte (n : Nat) : Byte := BitVec.ofNat 8 (n / 10 * 16 + n % 10)

end Sys2Proof.Machine
end

