-- ==== Sys2Proof/Certificates/Slice0/Obligations.lean ====
section
/-! DEFINITION. The statements for the provers. Numbers in them are the spec's own formulas on unbounded integers (00_scope.md
R9): `s.a.toNat` is the accumulator as an integer, `(s.read8 r).toNat` the operand register. An equation
`exec i s = .next { s with … }` is the whole effect: every field not named keeps its value. -/

open Sys2Proof Sys2Proof.Machine

/-! ### Results of the operations -/

/-- 40_add_sub.md R101: ADD's word, result and flags. -/
def Obligations.AddGivesSumModulo256AndFlags : Prop :=
  ∀ (r : Reg) (s : State),
    let a := s.a.toNat
    let v := (s.read8 r).toNat
    let sum := a + v
    decode (descWord 0x00 0 r.code.toNat) = .ok (.add r) ∧
      exec (.add r) s = .next { s with
        a := BitVec.ofNat 8 (sum % 256)
        f := ⟨decide (sum % 256 = 0), false, decide (a % 16 + v % 16 > 0xF), decide (sum > 255)⟩ }

/-- 40_add_sub.md R102: ADC's word, result and flags; the carry is also the OR of the source's two overflow signals. -/
def Obligations.AdcAddsOldCarry : Prop :=
  ∀ (r : Reg) (s : State),
    let a := s.a.toNat
    let v := (s.read8 r).toNat
    let cin := s.f.c.toNat
    let sum := a + v + cin
    decode (descWord 0x01 0 r.code.toNat) = .ok (.adc r) ∧
      exec (.adc r) s = .next { s with
        a := BitVec.ofNat 8 (sum % 256)
        f := ⟨decide (sum % 256 = 0), false, decide (a % 16 + v % 16 + cin > 0xF), decide (sum > 255)⟩ } ∧
      (sum > 255 ↔ (a + v > 255 ∨ (a + v) % 256 + cin > 255))

/-- 40_add_sub.md R103: SUB's word, result and flags. -/
def Obligations.SubGivesDifferenceModulo256AndFlags : Prop :=
  ∀ (r : Reg) (s : State),
    let a := s.a.toNat
    let v := (s.read8 r).toNat
    let res := (256 + a - v) % 256
    decode (descWord 0x02 0 r.code.toNat) = .ok (.sub r) ∧
      exec (.sub r) s = .next { s with
        a := BitVec.ofNat 8 res
        f := ⟨decide (res = 0), true, decide (a % 16 < v % 16), decide (a < v)⟩ }

/-- SBC's word, result and flags (40_add_sub.md). The side on which the half-carry takes the borrow-in is the spec's own decision,
92_eei_decisions.md D16. -/
def Obligations.SbcSubtractsOldCarry : Prop :=
  ∀ (r : Reg) (s : State),
    let a := s.a.toNat
    let v := (s.read8 r).toNat
    let bin := s.f.c.toNat
    let res := (256 + a - (v + bin)) % 256
    decode (descWord 0x03 0 r.code.toNat) = .ok (.sbc r) ∧
      exec (.sbc r) s = .next { s with
        a := BitVec.ofNat 8 res
        f := ⟨decide (res = 0), true, decide (a % 16 < v % 16 + bin), decide (a < v + bin)⟩ }

/-- 40_add_sub.md R105: CP's word; its flags are SUB's, no register is written; z says A = r and c says A < r. -/
def Obligations.CpSetsSubFlagsOnly : Prop :=
  ∀ (r : Reg) (s : State),
    let a := s.a.toNat
    let v := (s.read8 r).toNat
    decode (descWord 0x07 0 r.code.toNat) = .ok (.cp r) ∧
      exec (.cp r) s = .next { s with f := ⟨decide (a = v), true, decide (a % 16 < v % 16), decide (a < v)⟩ } ∧
      ∃ t, exec (.sub r) s = .next t ∧ exec (.cp r) s = .next { s with f := t.f }

/-- 42_bitwise.md R130 to R132: the words, results and flags of AND, OR and XOR. -/
def Obligations.BitwiseResultsAndFlags : Prop :=
  ∀ (r : Reg) (s : State),
    let a := s.a.toNat
    let v := (s.read8 r).toNat
    (decode (descWord 0x04 0 r.code.toNat) = .ok (.and r) ∧
      exec (.and r) s = .next { s with
        a := BitVec.ofNat 8 (a &&& v), f := ⟨decide (a &&& v = 0), false, true, false⟩ }) ∧
    (decode (descWord 0x05 0 r.code.toNat) = .ok (.or r) ∧
      exec (.or r) s = .next { s with
        a := BitVec.ofNat 8 (a ||| v), f := ⟨decide (a = 0 ∧ v = 0), false, false, false⟩ }) ∧
    (decode (descWord 0x06 0 r.code.toNat) = .ok (.xor r) ∧
      exec (.xor r) s = .next { s with
        a := BitVec.ofNat 8 (a ^^^ v), f := ⟨decide (a = v), false, false, false⟩ })

/-- INC's word, result and flags, carry copied (43_incdec.md R140). The half-carry formula is the spec's own reading, R142,
92_eei_decisions.md D16. -/
def Obligations.IncAddsOneKeepsCarry : Prop :=
  ∀ (r : Reg) (s : State),
    let v := (s.read8 r).toNat
    let res := (v + 1) % 256
    decode (descWord 0x08 0 r.code.toNat) = .ok (.inc r) ∧
      exec (.inc r) s = .next ((s.write8 r (BitVec.ofNat 8 res)).setFlags
        ⟨decide (res = 0), false, decide (v % 16 + 1 > 0xF), s.f.c⟩) ∧
      (v % 16 + 1 > 0xF ↔ v % 16 = 0xF) ∧ (v % 16 + 1 > 0xF ↔ res % 16 = 0)

/-- DEC's word, result and flags, carry copied (43_incdec.md R141). The half-carry formula is the spec's own reading, R142,
92_eei_decisions.md D16. -/
def Obligations.DecSubtractsOneKeepsCarry : Prop :=
  ∀ (r : Reg) (s : State),
    let v := (s.read8 r).toNat
    let res := (v + 255) % 256
    decode (descWord 0x09 0 r.code.toNat) = .ok (.dec r) ∧
      exec (.dec r) s = .next ((s.write8 r (BitVec.ofNat 8 res)).setFlags
        ⟨decide (res = 0), true, decide (v % 16 < 1), s.f.c⟩) ∧
      (v % 16 < 1 ↔ v % 16 = 0) ∧ (v % 16 < 1 ↔ res % 16 = 0xF)

/-- The half-carry of INC and DEC as the low nibble's crossing, written on the values before and after (43_incdec.md R142, the
spec's own reading, 92_eei_decisions.md D16). -/
def Obligations.IncDecHalfCarryIsNibbleCrossing : Prop :=
  ∀ (r : Reg) (s : State), ∃ t u,
    exec (.inc r) s = .next t ∧ exec (.dec r) s = .next u ∧
      (t.f.h = true ↔ (s.read8 r).setWidth 4 = 0xF#4 ∧ (t.read8 r).setWidth 4 = 0x0#4) ∧
      (t.f.h = false ↔ ¬ ((s.read8 r).setWidth 4 = 0xF#4) ∧ ¬ ((t.read8 r).setWidth 4 = 0x0#4)) ∧
      (u.f.h = true ↔ (s.read8 r).setWidth 4 = 0x0#4 ∧ (u.read8 r).setWidth 4 = 0xF#4) ∧
      (u.f.h = false ↔ ¬ ((s.read8 r).setWidth 4 = 0x0#4) ∧ ¬ ((u.read8 r).setWidth 4 = 0xF#4))

/-- 41_addhl.md R121 with each operand of its R120: the word, H and L together, and all four flags. That SP is the pin `sp_in` is
the spec's own decision, 92_eei_decisions.md D5; the statement holds for every value of the pin. -/
def Obligations.AddhlAddsPairIntoHl : Prop :=
  ∀ (p : Pair) (v : Nat) (s : State),
    (p = .bc ∧ v = s.b.toNat * 256 + s.c.toNat) ∨ (p = .de ∧ v = s.d.toNat * 256 + s.e.toNat) ∨
      (p = .hl ∧ v = s.h.toNat * 256 + s.l.toNat) ∨ (p = .sp ∧ v = s.pins.spIn.toNat) →
    let hl := s.h.toNat * 256 + s.l.toNat
    let sum := hl + v
    let res := sum % 65536
    decode (descWord 0x0A 0 p.code.toNat) = .ok (.addhl p) ∧
      exec (.addhl p) s = .next { s with
        h := BitVec.ofNat 8 (res / 256)
        l := BitVec.ofNat 8 (res % 256)
        f := ⟨decide (res = 0), false, decide (hl % 4096 + v % 4096 > 0xFFF), decide (sum > 65535)⟩ }

/-- 44_flag_acc_ops.md R150, R151: the words and effects of CCF and SCF. -/
def Obligations.CcfTogglesAndScfSetsCarry : Prop :=
  ∀ s : State,
    decode 0x0B00#16 = .ok .ccf ∧ exec .ccf s = .next { s with f := ⟨s.f.z, false, false, !s.f.c⟩ } ∧
    decode 0x0C00#16 = .ok .scf ∧ exec .scf s = .next { s with f := ⟨s.f.z, false, false, true⟩ }

/-- The words, results and flags of the accumulator rotates, by arithmetic on A; z is always 0 (44_flag_acc_ops.md R152 to
R155). The directions of all four are the spec's own reading, R156, 92_eei_decisions.md D17 (general knowledge,
93_implementation_defined.md U7). -/
def Obligations.AccumulatorRotatesForceZeroFlagLow : Prop :=
  ∀ s : State,
    let a := s.a.toNat
    (decode 0x0D00#16 = .ok .rra ∧
      exec .rra s = .next { s with
        a := BitVec.ofNat 8 (s.f.c.toNat * 128 + a / 2), f := ⟨false, false, false, decide (a % 2 = 1)⟩ }) ∧
    (decode 0x0E00#16 = .ok .rla ∧
      exec .rla s = .next { s with
        a := BitVec.ofNat 8 (a * 2 % 256 + s.f.c.toNat), f := ⟨false, false, false, decide (a ≥ 128)⟩ }) ∧
    (decode 0x0F00#16 = .ok .rrca ∧
      exec .rrca s = .next { s with
        a := BitVec.ofNat 8 (a % 2 * 128 + a / 2), f := ⟨false, false, false, decide (a % 2 = 1)⟩ }) ∧
    (decode 0x1000#16 = .ok .rrla ∧
      exec .rrla s = .next { s with
        a := BitVec.ofNat 8 (a * 2 % 256 + a / 128), f := ⟨false, false, false, decide (a ≥ 128)⟩ })

/-- 44_flag_acc_ops.md R157: CPL's word, result and flags; z and c are kept. -/
def Obligations.CplComplementsKeepsZeroAndCarry : Prop :=
  ∀ s : State, decode 0x1100#16 = .ok .cpl ∧
    exec .cpl s = .next { s with a := BitVec.ofNat 8 (255 - s.a.toNat), f := ⟨s.f.z, true, true, s.f.c⟩ }

/-- DAA's word, result and flags by the pseudocode of 44_flag_acc_ops.md R158. The new carry after a subtraction with c = 0 and h = 1
is the spec's own decision, R159, 92_eei_decisions.md D15. -/
def Obligations.DaaFollowsItsPseudocode : Prop :=
  ∀ s : State,
    let a := s.a.toNat
    let add60 : Prop := s.f.c = true ∨ a > 0x99
    let add06 : Prop := s.f.h = true ∨ a % 16 > 0x09
    decode 0x1200#16 = .ok .daa ∧
      (s.f.n = false → ∀ adj, adj = (if add60 then 0x60 else 0) + (if add06 then 0x06 else 0) →
        exec .daa s = .next { s with
          a := BitVec.ofNat 8 ((a + adj) % 256)
          f := ⟨decide ((a + adj) % 256 = 0), false, false, decide add60⟩ }) ∧
      (s.f.n = true →
        ∀ adj, adj = (if s.f.c = true ∧ s.f.h = true then 0x66 else if s.f.c = true then 0x60
          else if s.f.h = true then 0x06 else 0x00) →
        exec .daa s = .next { s with
          a := BitVec.ofNat 8 ((256 + a - adj) % 256)
          f := ⟨decide ((256 + a - adj) % 256 = 0), true, false, s.f.c⟩ })

/-- The thirteen rows of the table of 44_flag_acc_ops.md R160 (derived by the spec from its R158). -/
def Obligations.DaaOutcomesByTable : Prop :=
  ∀ s : State, ∃ t, exec .daa s = .next t ∧
    t.f.z = decide (t.a = 0#8) ∧ t.f.n = s.f.n ∧ t.f.h = false ∧
    (∀ r, r ≠ .a → t.read8 r = s.read8 r) ∧ SameOutsideRegs s t ∧
    let big := s.a.toNat > 0x99
    let low := s.a.toNat % 16 > 9
    let row := fun (n c h : Bool) (cond : Prop) (res : Byte) (cout : Bool) =>
      s.f.n = n → s.f.c = c → s.f.h = h → cond → t.a = res ∧ t.f.c = cout
    row false false false (¬ big ∧ ¬ low) s.a false ∧
    row false false false (¬ big ∧ low) (s.a + 0x06#8) false ∧
    row false false false (big ∧ ¬ low) (s.a + 0x60#8) true ∧
    row false false false (big ∧ low) (s.a + 0x66#8) true ∧
    row false false true (¬ big) (s.a + 0x06#8) false ∧
    row false false true big (s.a + 0x66#8) true ∧
    row false true false (¬ low) (s.a + 0x60#8) true ∧
    row false true false low (s.a + 0x66#8) true ∧
    row false true true True (s.a + 0x66#8) true ∧
    row true false false True s.a false ∧
    row true false true True (s.a - 0x06#8) false ∧
    row true true false True (s.a - 0x60#8) true ∧
    row true true true True (s.a - 0x66#8) true

/-- 45_bit_ops.md R170: BIT's word and flags; z is the complement of the tested bit and no register is written. -/
def Obligations.BitTestsAndWritesNoRegister : Prop :=
  ∀ (r : Reg) (n : BitIndex) (s : State),
    decode (descWord 0x13 n.val r.code.toNat) = .ok (.bit r n) ∧
      exec (.bit r n) s = .next { s with f := ⟨!(s.read8 r).getLsbD n.val, false, true, s.f.c⟩ }

/-- 45_bit_ops.md R171, R172: the words of RESET and SET; bit n becomes 0 or 1, the other seven bits and all the flags are
kept. -/
def Obligations.ResetClearsAndSetSetsOneBit : Prop :=
  ∀ (r : Reg) (n : BitIndex) (s : State),
    decode (descWord 0x14 n.val r.code.toNat) = .ok (.resetBit r n) ∧
    decode (descWord 0x15 n.val r.code.toNat) = .ok (.setBit r n) ∧
    (∃ v : Byte, exec (.resetBit r n) s = .next (s.write8 r v) ∧
      ∀ k : BitIndex, v.getLsbD k.val = (if k = n then false else (s.read8 r).getLsbD k.val)) ∧
    (∃ v : Byte, exec (.setBit r n) s = .next (s.write8 r v) ∧
      ∀ k : BitIndex, v.getLsbD k.val = (if k = n then true else (s.read8 r).getLsbD k.val))

/-- The words, results and flags of SRL, RR, RRC and SRA, by arithmetic (46_shift_rotate.md R181, R182, R184, R186). The directions of
RR and RRC are the spec's own reading, R180, 92_eei_decisions.md D17 (general knowledge, 93_implementation_defined.md U7); those of SRL
and SRA are the source's. -/
def Obligations.RightShiftsAndRotatesOfAnyRegister : Prop :=
  ∀ (r : Reg) (s : State),
    let v := (s.read8 r).toNat
    let effect := fun (res : Nat) => Host.Outcome.next ((s.write8 r (BitVec.ofNat 8 res)).setFlags
      ⟨decide (res = 0), false, false, decide (v % 2 = 1)⟩)
    (decode (descWord 0x16 0 r.code.toNat) = .ok (.srl r) ∧ exec (.srl r) s = effect (v / 2)) ∧
    (decode (descWord 0x17 0 r.code.toNat) = .ok (.rr r) ∧ exec (.rr r) s = effect (s.f.c.toNat * 128 + v / 2)) ∧
    (decode (descWord 0x19 0 r.code.toNat) = .ok (.rrc r) ∧ exec (.rrc r) s = effect (v % 2 * 128 + v / 2)) ∧
    (decode (descWord 0x1B 0 r.code.toNat) = .ok (.sra r) ∧ exec (.sra r) s = effect (v / 128 * 128 + v / 2))

/-- The words, results and flags of RL, RLC and SLA, by arithmetic (46_shift_rotate.md R183, R185, R187). The directions of RL and RLC are
the spec's own reading, R180, 92_eei_decisions.md D17 (general knowledge, 93_implementation_defined.md U7); that of SLA is the
source's. -/
def Obligations.LeftShiftsAndRotatesOfAnyRegister : Prop :=
  ∀ (r : Reg) (s : State),
    let v := (s.read8 r).toNat
    let effect := fun (res : Nat) => Host.Outcome.next ((s.write8 r (BitVec.ofNat 8 res)).setFlags
      ⟨decide (res = 0), false, false, decide (v ≥ 128)⟩)
    (decode (descWord 0x18 0 r.code.toNat) = .ok (.rl r) ∧ exec (.rl r) s = effect (v * 2 % 256 + s.f.c.toNat)) ∧
    (decode (descWord 0x1A 0 r.code.toNat) = .ok (.rlc r) ∧ exec (.rlc r) s = effect (v * 2 % 256 + v / 128)) ∧
    (decode (descWord 0x1C 0 r.code.toNat) = .ok (.sla r) ∧ exec (.sla r) s = effect (v * 2 % 256))

/-- 46_shift_rotate.md R188: SWAP's word, result and flags. -/
def Obligations.SwapExchangesNibbles : Prop :=
  ∀ (r : Reg) (s : State),
    let v := (s.read8 r).toNat
    decode (descWord 0x1D 0 r.code.toNat) = .ok (.swap r) ∧
      exec (.swap r) s = .next ((s.write8 r (BitVec.ofNat 8 (v % 16 * 16 + v / 16))).setFlags
        ⟨decide (v = 0), false, false, false⟩)

/-! ### Laws between operations -/

/-- The accumulator and the general rotates on A give the same A and c and differ only in z (46_shift_rotate.md R189, derived
by the spec); their words differ. -/
def Obligations.AccumulatorAndGeneralRotatesDifferInZeroOnly : Prop :=
  ∀ (s : State) (i j : Instr),
    (i = .rra ∧ j = .rr .a) ∨ (i = .rla ∧ j = .rl .a) ∨ (i = .rrca ∧ j = .rrc .a) ∨ (i = .rrla ∧ j = .rlc .a) →
    ∃ t u, exec i s = .next t ∧ exec j s = .next u ∧
      t = { u with f := { u.f with z := false } } ∧ (u.f.z = true ↔ u.a = 0#8) ∧ encode i ≠ encode j

/-- The laws of 40_add_sub.md R106 (derived by the spec): ADC and SBC by 9-bit and 5-bit sums, and SUB then ADD of the same
register. -/
def Obligations.CarriesAreTheNinthAndFifthBits : Prop :=
  ∀ (r : Reg) (s : State),
    let v := s.read8 r
    let k := s.f.c
    let sum9 : BitVec 9 := s.a.setWidth 9 + v.setWidth 9 + BitVec.ofNat 9 k.toNat
    let dif9 : BitVec 9 := s.a.setWidth 9 + (~~~v).setWidth 9 + BitVec.ofNat 9 (!k).toNat
    let sum5 : BitVec 5 := (s.a.setWidth 4).setWidth 5 + (v.setWidth 4).setWidth 5 + BitVec.ofNat 5 k.toNat
    let dif5 : BitVec 5 := (s.a.setWidth 4).setWidth 5 + (~~~(v.setWidth 4)).setWidth 5 + BitVec.ofNat 5 (!k).toNat
    (∃ t, exec (.adc r) s = .next t ∧ t.a = sum9.setWidth 8 ∧ t.f.c = sum9.getLsbD 8 ∧ t.f.h = sum5.getLsbD 4) ∧
    (∃ t, exec (.sbc r) s = .next t ∧ t.a = dif9.setWidth 8 ∧ t.f.c = (!dif9.getLsbD 8) ∧ t.f.h = (!dif5.getLsbD 4)) ∧
    (r ≠ .a → ∃ t, execList [.sub r, .add r] s = .next t ∧ ∀ q, t.read8 q = s.read8 q)

/-- 43_incdec.md R143 (in part derived by the spec): INC then DEC, and DEC then INC, of any register restore it and the carry; the other flags
after INC then DEC. -/
def Obligations.IncThenDecRestoresRegisterAndCarry : Prop :=
  ∀ (r : Reg) (s : State),
    let v := (s.read8 r).toNat
    execList [.inc r, .dec r] s = .next { s with f := ⟨decide (v = 0), true, decide (v % 16 = 0xF), s.f.c⟩ } ∧
    (∃ t, execList [.dec r, .inc r] s = .next t ∧ (∀ q, t.read8 q = s.read8 q) ∧ t.f.c = s.f.c ∧ SameOutsideRegs s t)

/-- The periods the spec gives as corner cases (44_flag_acc_ops.md, 46_shift_rotate.md): nine rotates through the carry restore the byte and
the carry, eight circular ones the byte, two SWAP or CPL the byte; opposite circular rotates undo each other. -/
def Obligations.RotatesHaveTheirPeriods : Prop :=
  ∀ (r : Reg) (s : State),
    execList (List.replicate 9 .rra) s = .next { s with f := ⟨false, false, false, s.f.c⟩ } ∧
    execList (List.replicate 9 .rla) s = .next { s with f := ⟨false, false, false, s.f.c⟩ } ∧
    (∃ t, execList (List.replicate 9 (.rr r)) s = .next t ∧ t.read8 r = s.read8 r ∧ t.f.c = s.f.c) ∧
    (∃ t, execList (List.replicate 9 (.rl r)) s = .next t ∧ t.read8 r = s.read8 r ∧ t.f.c = s.f.c) ∧
    (∃ t, execList (List.replicate 8 .rrca) s = .next t ∧ t.a = s.a) ∧
    (∃ t, execList (List.replicate 8 .rrla) s = .next t ∧ t.a = s.a) ∧
    (∃ t, execList (List.replicate 8 (.rrc r)) s = .next t ∧ t.read8 r = s.read8 r) ∧
    (∃ t, execList [.rrla, .rrca] s = .next t ∧ t.a = s.a) ∧
    (∃ t, execList [.rlc r, .rrc r] s = .next t ∧ t.read8 r = s.read8 r) ∧
    (∃ t, execList [.swap r, .swap r] s = .next t ∧ t.read8 r = s.read8 r) ∧
    execList [.cpl, .cpl] s = .next { s with f := ⟨s.f.z, true, true, s.f.c⟩ }

/-- The corner cases of 45_bit_ops.md R171 and R172 through BIT: the last of SET and RESET decides the bit, the register otherwise and the
flags are as before, and a SET of a set bit or RESET of a clear bit changes nothing. -/
def Obligations.LastOfSetAndResetDecidesTheBit : Prop :=
  ∀ (r : Reg) (n : BitIndex) (s : State),
    execList [.setBit r n, .resetBit r n] s = exec (.resetBit r n) s ∧
    execList [.resetBit r n, .setBit r n] s = exec (.setBit r n) s ∧
    ((s.read8 r).getLsbD n.val = true → exec (.setBit r n) s = .next s) ∧
    ((s.read8 r).getLsbD n.val = false → exec (.resetBit r n) s = .next s) ∧
    (∃ t, execList [.setBit r n, .bit r n] s = .next t ∧ t.f.z = false) ∧
    (∃ t, execList [.resetBit r n, .bit r n] s = .next t ∧ t.f.z = true)

/-- 44_flag_acc_ops.md R161 (derived by the spec), addition: ADD or ADC of two decimal bytes and then DAA leaves the decimal byte of the
sum modulo 100, and the carry says whether the sum reached 100. -/
def Obligations.DecimalAdditionThroughDaa : Prop :=
  ∀ (s : State) (r : Reg) (x y : Nat), x < 100 → y < 100 → s.a = bcdByte x → s.read8 r = bcdByte y →
    (∃ t, execList [.add r, .daa] s = .next t ∧
      t.a = bcdByte ((x + y) % 100) ∧ t.f.c = decide (x + y ≥ 100)) ∧
    (∃ t, execList [.adc r, .daa] s = .next t ∧
      t.a = bcdByte ((x + y + s.f.c.toNat) % 100) ∧ t.f.c = decide (x + y + s.f.c.toNat ≥ 100))

/-- 44_flag_acc_ops.md R161 (derived by the spec), subtraction: SUB or SBC of two decimal bytes and then DAA leaves the decimal byte of
the difference modulo 100, and the carry says whether it borrowed. -/
def Obligations.DecimalSubtractionThroughDaa : Prop :=
  ∀ (s : State) (r : Reg) (x y : Nat), x < 100 → y < 100 → s.a = bcdByte x → s.read8 r = bcdByte y →
    (∃ t, execList [.sub r, .daa] s = .next t ∧
      t.a = bcdByte ((100 + x - y) % 100) ∧ t.f.c = decide (x < y)) ∧
    (∃ t, execList [.sbc r, .daa] s = .next t ∧
      t.a = bcdByte ((100 + x - (y + s.f.c.toNat)) % 100) ∧ t.f.c = decide (x < y + s.f.c.toNat))

/-! ### Encoding -/

/-- Every well-formed operation, with every operand, decodes from its own word (30_encoding.md R79, R82). -/
def Obligations.DecodeOfEncodeIsTheOperation : Prop :=
  ∀ i : Instr, i.wellFormed = true → decode (encode i) = .ok i

/-- A word that decodes is the word of what it decodes to, which is well formed: no bit of a legal word is dropped
(30_encoding.md R79, R82). -/
def Obligations.EncodeOfDecodeIsTheWord : Prop :=
  ∀ (w : Word) (i : Instr), decode w = .ok i → i.wellFormed = true ∧ encode i = w

/-- The decoder accepts exactly the words that `legal` of 30_encoding.md R79 accepts. -/
def Obligations.DecoderAcceptsExactlyLegalWords : Prop :=
  ∀ w : Word, (∃ i, decode w = .ok i) ↔ legal w = true

/-- The legal words are 306 (30_encoding.md R79): a list of 306 distinct words holds exactly those that decode. -/
def Obligations.ThereAre306LegalWords : Prop :=
  ∃ ws : List Word, ws.Nodup ∧ ws.length = Config.legalWords ∧ ∀ w, (∃ i, decode w = .ok i) ↔ w ∈ ws

/-- Words written out from the patterns of 30_encoding.md R76, at least one of each family, and words its R80 calls illegal, which
are rejected. The names of the rejections, and which of several is given, are the model's choice, log entry 6 (DESIGN CHOICE). -/
def Obligations.SampleWordsDecode : Prop :=
  decode 0b0000000000000110#16 = .ok (.add .l) ∧ decode 0b0000001100000110#16 = .ok (.sbc .l) ∧
  decode 0b0000101000000011#16 = .ok (.addhl .sp) ∧ decode 0b0000010100000100#16 = .ok (.or .e) ∧
  decode 0b0000100100000001#16 = .ok (.dec .b) ∧ decode 0b0001000000000000#16 = .ok .rrla ∧
  decode 0b0001001100110011#16 = .ok (.bit .d 3) ∧ decode 0b0001010001110000#16 = .ok (.resetBit .a 7) ∧
  decode 0b0001010100000110#16 = .ok (.setBit .l 0) ∧ decode 0b0001101100000011#16 = .ok (.sra .d) ∧
  decode 0b0001110100000100#16 = .ok (.swap .e) ∧
  decode 0x1E00#16 = .error .unknownOpcode ∧ decode 0x0007#16 = .error .noRegister ∧
  decode 0x0A04#16 = .error .noPair ∧ decode 0x0080#16 = .error .reservedBit ∧
  decode 0x0012#16 = .error .strayIndex ∧ decode 0x1201#16 = .error .straySelector

/-! ### The step -/

/-- When EXEC is on the pins, `rst` is low, FAULT is 0 and the word decodes to i, the step is EXEC of i followed by the host's next inputs
(70_reset_and_hazards.md R255). That the inputs come from `script` is the model's choice, log entry 1. -/
def Obligations.StepRunsDecodedOperation : Prop :=
  ∀ (s : State) (i : Instr), s.pins.rst = false → s.fault = false → s.pins.cmd = 1#2 → decode s.pins.desc = .ok i →
    step s = (match exec i s with
      | .next t => .next (presentNext t)
      | .fault r => .fault r
      | .refused r => .refused r)

/-- The word the host places runs at once: with FAULT = 0, the very next step from `withFetchWord` of an operation's word is EXEC of that operation
(the model's convention, log entry 4). -/
def Obligations.PlacedWordRunsAtTheNextStep : Prop :=
  ∀ (s : State) (i : Instr), i.wellFormed = true → s.fault = false →
    decodeTableWord 16 (encode i).toNat = some i ∧
    (s.withFetchWord 16 (encode i).toNat).toBlock = s.toBlock ∧
    ∃ t, exec i (s.withFetchWord 16 (encode i).toNat) = .next t ∧
      step (s.withFetchWord 16 (encode i).toNat) = .next (presentNext t)

/-- EXEC of an illegal word (60_exceptions.md R221; the latch is the spec's decision, 92_eei_decisions.md D6): FAULT and cause 1, all else
kept. -/
def Obligations.IllegalDescriptorLatchesCause1 : Prop :=
  ∀ s : State, s.pins.rst = false → s.fault = false → s.pins.cmd = 1#2 → legal s.pins.desc = false →
    ∃ t, step s = .next t ∧ t.toBlock = { s.toBlock with fault := true, fcause := 1#2 }

/-- WR8 or WR16 with a selector that names nothing (60_exceptions.md R221; 92_eei_decisions.md D6, D13): FAULT and cause 2, nothing
written. -/
def Obligations.IllegalWriteSelectorLatchesCause2 : Prop :=
  ∀ s : State, s.pins.rst = false → s.fault = false →
    (s.pins.cmd = 2#2 ∧ s.pins.wsel = 7#3) ∨
      (s.pins.cmd = 3#2 ∧ (s.pins.wsel = 3#3 ∨ s.pins.wsel = 5#3 ∨ s.pins.wsel = 6#3 ∨ s.pins.wsel = 7#3)) →
    ∃ t, step s = .next t ∧ t.toBlock = { s.toBlock with fault := true, fcause := 2#2 }

/-- WR8 (47_host_access.md R201; 92_eei_decisions.md D13): the low byte of `wdata` into the named register, nothing else. -/
def Obligations.Wr8WritesOneRegister : Prop :=
  ∀ (s : State) (r : Reg), s.pins.rst = false → s.fault = false → s.pins.cmd = 2#2 → s.pins.wsel = r.code →
    ∃ t, step s = .next t ∧ (t.read8 r).toNat = s.pins.wdata.toNat % 256 ∧
      (∀ q, q ≠ r → t.read8 q = s.read8 q) ∧ t.f = s.f ∧ t.fault = false ∧ t.fcause = s.fcause

/-- WR16 (47_host_access.md R202; 92_eei_decisions.md D13): both halves of the named pair, high byte first; AF takes the flags from bits
7 to 4. -/
def Obligations.Wr16WritesOnePair : Prop :=
  ∀ s : State, s.pins.rst = false → s.fault = false → s.pins.cmd = 3#2 →
    let hi : Byte := BitVec.ofNat 8 (s.pins.wdata.toNat / 256)
    let lo : Byte := BitVec.ofNat 8 (s.pins.wdata.toNat % 256)
    let effect := fun (b : Block) => ∃ t, step s = .next t ∧ t.toBlock = b
    (s.pins.wsel = 0#3 → effect { s.toBlock with b := hi, c := lo }) ∧
    (s.pins.wsel = 1#3 → effect { s.toBlock with d := hi, e := lo }) ∧
    (s.pins.wsel = 2#3 → effect { s.toBlock with h := hi, l := lo }) ∧
    (s.pins.wsel = 4#3 → effect { s.toBlock with
      a := hi
      f := ⟨s.pins.wdata.getLsbD 7, s.pins.wdata.getLsbD 6, s.pins.wdata.getLsbD 5, s.pins.wdata.getLsbD 4⟩ })

/-- IDLE (47_host_access.md R200; 92_eei_decisions.md D1) changes nothing, whatever the other inputs. -/
def Obligations.IdleChangesNothing : Prop :=
  ∀ s : State, s.pins.rst = false → s.pins.cmd = 0#2 → ∃ t, step s = .next t ∧ t.toBlock = s.toBlock

/-- While FAULT = 1 and `rst` stays low nothing changes, whatever commands come and however many (60_exceptions.md R224, R225; 92_eei_decisions.md
D14). -/
def Obligations.FaultedBlockIsFrozenUntilReset : Prop :=
  ∀ (ins : List Pins) (s : State), s.fault = true → (∀ p ∈ ins, p.rst = false) →
    ∃ t, runInputs ins s = .next t ∧ t.toBlock = s.toBlock

/-- `rst` for one or more edges gives the reset state from any state, faulted or not, whatever else is on the pins
(70_reset_and_hazards.md R250; 92_eei_decisions.md D8, D9). -/
def Obligations.ResetClearsEverythingFromAnyState : Prop :=
  ∀ (ins : List Pins) (s : State), ins ≠ [] → (∀ p ∈ ins, p.rst = true) →
    ∃ t, runInputs ins s = .next t ∧ (∀ r, t.read8 r = 0x00#8) ∧ t.f = ⟨false, false, false, false⟩ ∧
      t.fault = false ∧ t.fcause = 0#2

/-- The state after reset (10_state.md R37): flags 0 by the source, registers and latch 0 by 92_eei_decisions.md D8; f is 0x00 and AF is
0x0000. -/
def Obligations.ResetStateIsAllZero : Prop :=
  (∀ r, State.reset.read8 r = 0x00#8) ∧ State.reset.f = ⟨false, false, false, false⟩ ∧
    State.reset.fault = false ∧ State.reset.fcause = 0#2 ∧
    State.reset.f.toByte = 0x00#8 ∧ State.reset.read16 .af = 0x0000#16

/-- Every step keeps FAULT and FCAUSE in agreement (10_state.md R34, 60_exceptions.md R221; 92_eei_decisions.md D6): FCAUSE is 0 exactly while FAULT
is 0, and never 3. -/
def Obligations.StepKeepsFaultAndCauseInAgreement : Prop :=
  ∀ s t : State, FaultWellFormed s → step s = .next t → FaultWellFormed t

/-- The invariant holds at reset. -/
def Obligations.ResetHasFaultAndCauseInAgreement : Prop := FaultWellFormed State.reset

/-- The step is total (70_reset_and_hazards.md R255): from every state it answers a next state, and takes exactly one input tuple of the
script (the model's convention, log entries 1 and 2). -/
def Obligations.StepAlwaysAnswersNext : Prop :=
  ∀ s : State, ∃ t, step s = .next t ∧ t.pins = s.script.headD Pins.idle ∧ t.script = s.script.tail

/-- The view of 60_exceptions.md R226 (log entry 3): from a running state with `rst` low, `strictStep` faults exactly on an illegal
command, with its cause, and otherwise is `step`; and no state it answers is faulted. -/
def Obligations.StrictStepFaultsExactlyOnIllegalCommands : Prop :=
  (∀ s : State, s.pins.rst = false → s.fault = false →
    (∀ cause, illegalCause s.pins = some cause → strictStep s = .fault (.illegalCommand cause)) ∧
    (illegalCause s.pins = none → ∃ t, strictStep s = .next t ∧ step s = .next t)) ∧
  (∀ s t : State, strictStep s = .next t → t.fault = false)

/-! ### The whole machine -/

/-- The frame of every operation (10_state.md R22, R30; 60_exceptions.md R222): it completes from every state, writes only its destination registers, keeps every
flag the table marks "=", raises no fault and touches nothing else. -/
def Obligations.EveryOperationCompletesWithinItsFrame : Prop :=
  ∀ (i : Instr) (s : State), i.wellFormed = true →
    ∃ t, exec i s = .next t ∧ (∀ r, r ∉ destRegs i → t.read8 r = s.read8 r) ∧
      Flags.agreeOn (keptFlags i) s.f t.f ∧ SameOutsideRegs s t

/-- What an operation leaves depends on no flag but those the last column of the table of 10_state.md R30 names, and on the copied ones only in
their own place. -/
def Obligations.ResultsDependOnlyOnFlagsRead : Prop :=
  ∀ (i : Instr) (s : State) (g : Flags), i.wellFormed = true → Flags.agreeOn (readFlags i) s.f g →
    ∃ t u, exec i s = .next t ∧ exec i { s with f := g } = .next u ∧
      (∀ r, t.read8 r = u.read8 r) ∧ Flags.agreeOff (keptFlags i) t.f u.f

/-- An input outside its "used when" row has no effect (30_encoding.md R70; 92_eei_decisions.md D1): in particular `sp_in` matters to
ADDHL(SP) alone and WR8 drops the upper byte of `wdata`. -/
def Obligations.UnusedInputsHaveNoEffect : Prop :=
  ∀ (s : State) (p : Pins),
    p.rst = s.pins.rst → p.cmd = s.pins.cmd →
    (s.pins.cmd = 1#2 → p.desc = s.pins.desc) →
    (s.pins.cmd = 2#2 ∨ s.pins.cmd = 3#2 → p.wsel = s.pins.wsel) →
    (s.pins.cmd = 2#2 → p.wdata.toNat % 256 = s.pins.wdata.toNat % 256) →
    (s.pins.cmd = 3#2 → p.wdata = s.pins.wdata) →
    (s.pins.cmd = 1#2 → s.pins.desc = 0x0A03#16 → p.spIn = s.pins.spIn) →
    ∃ t u, step s = .next t ∧ step { s with pins := p } = .next u ∧ t.toBlock = u.toBlock

/-- Inserting an IDLE cycle anywhere never changes the outcome (70_reset_and_hazards.md R257). -/
def Obligations.IdleCyclesMayBeInsertedAnywhere : Prop :=
  ∀ (xs ys : List Pins) (p : Pins) (s : State), p.rst = false → p.cmd = 0#2 →
    ∃ t u, runInputs (xs ++ p :: ys) s = .next t ∧ runInputs (xs ++ ys) s = .next u ∧ t.toBlock = u.toBlock

/-- A run that begins with `rst` does not depend on the state before it (70_reset_and_hazards.md R250, R251; 92_eei_decisions.md D9). -/
def Obligations.RunFromResetForgetsTheStateBefore : Prop :=
  ∀ (p : Pins) (ins : List Pins) (s s' : State), p.rst = true →
    ∃ t u, runInputs (p :: ins) s = .next t ∧ runInputs (p :: ins) s' = .next u ∧ t.toBlock = u.toBlock

/-- Whether a whole run faults, and with which cause, is computed from the bits of its commands without the registers or flags
(60_exceptions.md R222, derived by the spec; R223 to R225). -/
def Obligations.FaultLatchOfARunIsPredictable : Prop :=
  ∀ (ins : List Pins) (s : State), ∃ t, runInputs ins s = .next t ∧
    (t.fault, t.fcause) = ins.foldl latchAfter (s.fault, s.fcause)

/-! ### Views and outputs -/

/-- 10_state.md R25: the four pair views, high byte first. -/
def Obligations.PairViewsAreHighByteFirst : Prop :=
  ∀ s : State,
    (s.read16 .bc).toNat = s.b.toNat * 256 + s.c.toNat ∧ (s.read16 .de).toNat = s.d.toNat * 256 + s.e.toNat ∧
    (s.read16 .hl).toNat = s.h.toNat * 256 + s.l.toNat ∧ (s.read16 .af).toNat = s.a.toNat * 256 + s.f.toByte.toNat

/-- A pair view read after a write gives the value written, less the low nibble for AF; the view's two fields and nothing else are written (10_state.md R26,
in part derived by the spec). -/
def Obligations.PairViewReadAfterWrite : Prop :=
  ∀ (s : State) (p : View) (w : Word),
    (s.write16 p w).read16 p = (if p = .af then w &&& 0xFFF0#16 else w) ∧
    (∀ q, q ≠ p → (s.write16 p w).read16 q = s.read16 q) ∧ SameOutsideRegs s (s.write16 p w)

/-- 10_state.md R27, R28: packing and unpacking the flags. -/
def Obligations.FlagByteRoundTrips : Prop :=
  (∀ f : Flags, f.toByte.toNat = f.z.toNat * 128 + f.n.toNat * 64 + f.h.toNat * 32 + f.c.toNat * 16 ∧
    f.toByte &&& 0x0F#8 = 0x00#8 ∧ Flags.fromByte f.toByte = f) ∧
  (∀ v : Byte, Flags.fromByte v = ⟨v.getLsbD 7, v.getLsbD 6, v.getLsbD 5, v.getLsbD 4⟩ ∧
    (Flags.fromByte v).toByte = v &&& 0xF0#8)

/-- The outputs show the whole state, and the host's read8 and read16 of them are the register-file accessors (10_state.md R35,
47_host_access.md R203; 92_eei_decisions.md D1). -/
def Obligations.OutputsShowTheState : Prop :=
  ∀ s : State, (∀ r, s.outputs.read8 r = s.read8 r) ∧ (∀ p, s.outputs.read16 p = s.read16 p) ∧
    s.outputs.f = s.f.toByte ∧ (⟨s.outputs.zf, s.outputs.nf, s.outputs.hf, s.outputs.cf⟩ : Flags) = s.f ∧
    s.outputs.fault = s.fault ∧ s.outputs.fcause = s.fcause
end

