-- ==== Sys2Proof/Laws/State.lean ====
section
/-! SUPPORT. One lemma per field per update of State, each true by unfolding the update. -/

namespace Sys2Proof.Machine

@[simp] theorem setFlags_a (s : State) (f : Flags) :
    (s.setFlags f).a = s.a := rfl

@[simp] theorem setFlags_b (s : State) (f : Flags) :
    (s.setFlags f).b = s.b := rfl

@[simp] theorem setFlags_c (s : State) (f : Flags) :
    (s.setFlags f).c = s.c := rfl

@[simp] theorem setFlags_d (s : State) (f : Flags) :
    (s.setFlags f).d = s.d := rfl

@[simp] theorem setFlags_e (s : State) (f : Flags) :
    (s.setFlags f).e = s.e := rfl

@[simp] theorem setFlags_h (s : State) (f : Flags) :
    (s.setFlags f).h = s.h := rfl

@[simp] theorem setFlags_l (s : State) (f : Flags) :
    (s.setFlags f).l = s.l := rfl

@[simp] theorem setFlags_f (s : State) (f : Flags) :
    (s.setFlags f).f = f := rfl

@[simp] theorem setFlags_fault (s : State) (f : Flags) :
    (s.setFlags f).fault = s.fault := rfl

@[simp] theorem setFlags_fcause (s : State) (f : Flags) :
    (s.setFlags f).fcause = s.fcause := rfl

@[simp] theorem setFlags_pins (s : State) (f : Flags) :
    (s.setFlags f).pins = s.pins := rfl

@[simp] theorem setFlags_script (s : State) (f : Flags) :
    (s.setFlags f).script = s.script := rfl

@[simp] theorem raiseIllegal_a (cause : Cause) (s : State) :
    (raiseIllegal cause s).a = s.a := rfl

@[simp] theorem raiseIllegal_b (cause : Cause) (s : State) :
    (raiseIllegal cause s).b = s.b := rfl

@[simp] theorem raiseIllegal_c (cause : Cause) (s : State) :
    (raiseIllegal cause s).c = s.c := rfl

@[simp] theorem raiseIllegal_d (cause : Cause) (s : State) :
    (raiseIllegal cause s).d = s.d := rfl

@[simp] theorem raiseIllegal_e (cause : Cause) (s : State) :
    (raiseIllegal cause s).e = s.e := rfl

@[simp] theorem raiseIllegal_h (cause : Cause) (s : State) :
    (raiseIllegal cause s).h = s.h := rfl

@[simp] theorem raiseIllegal_l (cause : Cause) (s : State) :
    (raiseIllegal cause s).l = s.l := rfl

@[simp] theorem raiseIllegal_f (cause : Cause) (s : State) :
    (raiseIllegal cause s).f = s.f := rfl

@[simp] theorem raiseIllegal_fault (cause : Cause) (s : State) :
    (raiseIllegal cause s).fault = true := rfl

@[simp] theorem raiseIllegal_fcause (cause : Cause) (s : State) :
    (raiseIllegal cause s).fcause = cause.code := rfl

@[simp] theorem raiseIllegal_pins (cause : Cause) (s : State) :
    (raiseIllegal cause s).pins = s.pins := rfl

@[simp] theorem raiseIllegal_script (cause : Cause) (s : State) :
    (raiseIllegal cause s).script = s.script := rfl

@[simp] theorem resetBlock_a (s : State) :
    (resetBlock s).a = Block.reset.a := rfl

@[simp] theorem resetBlock_b (s : State) :
    (resetBlock s).b = Block.reset.b := rfl

@[simp] theorem resetBlock_c (s : State) :
    (resetBlock s).c = Block.reset.c := rfl

@[simp] theorem resetBlock_d (s : State) :
    (resetBlock s).d = Block.reset.d := rfl

@[simp] theorem resetBlock_e (s : State) :
    (resetBlock s).e = Block.reset.e := rfl

@[simp] theorem resetBlock_h (s : State) :
    (resetBlock s).h = Block.reset.h := rfl

@[simp] theorem resetBlock_l (s : State) :
    (resetBlock s).l = Block.reset.l := rfl

@[simp] theorem resetBlock_f (s : State) :
    (resetBlock s).f = Block.reset.f := rfl

@[simp] theorem resetBlock_fault (s : State) :
    (resetBlock s).fault = Block.reset.fault := rfl

@[simp] theorem resetBlock_fcause (s : State) :
    (resetBlock s).fcause = Block.reset.fcause := rfl

@[simp] theorem resetBlock_pins (s : State) :
    (resetBlock s).pins = s.pins := rfl

@[simp] theorem resetBlock_script (s : State) :
    (resetBlock s).script = s.script := rfl

@[simp] theorem presentNext_a (s : State) :
    (presentNext s).a = s.a := by
  unfold presentNext; split <;> rfl

@[simp] theorem presentNext_b (s : State) :
    (presentNext s).b = s.b := by
  unfold presentNext; split <;> rfl

@[simp] theorem presentNext_c (s : State) :
    (presentNext s).c = s.c := by
  unfold presentNext; split <;> rfl

@[simp] theorem presentNext_d (s : State) :
    (presentNext s).d = s.d := by
  unfold presentNext; split <;> rfl

@[simp] theorem presentNext_e (s : State) :
    (presentNext s).e = s.e := by
  unfold presentNext; split <;> rfl

@[simp] theorem presentNext_h (s : State) :
    (presentNext s).h = s.h := by
  unfold presentNext; split <;> rfl

@[simp] theorem presentNext_l (s : State) :
    (presentNext s).l = s.l := by
  unfold presentNext; split <;> rfl

@[simp] theorem presentNext_f (s : State) :
    (presentNext s).f = s.f := by
  unfold presentNext; split <;> rfl

@[simp] theorem presentNext_fault (s : State) :
    (presentNext s).fault = s.fault := by
  unfold presentNext; split <;> rfl

@[simp] theorem presentNext_fcause (s : State) :
    (presentNext s).fcause = s.fcause := by
  unfold presentNext; split <;> rfl

@[simp] theorem presentExec_a (w : Word) (s : State) :
    (presentExec w s).a = s.a := rfl

@[simp] theorem presentExec_b (w : Word) (s : State) :
    (presentExec w s).b = s.b := rfl

@[simp] theorem presentExec_c (w : Word) (s : State) :
    (presentExec w s).c = s.c := rfl

@[simp] theorem presentExec_d (w : Word) (s : State) :
    (presentExec w s).d = s.d := rfl

@[simp] theorem presentExec_e (w : Word) (s : State) :
    (presentExec w s).e = s.e := rfl

@[simp] theorem presentExec_h (w : Word) (s : State) :
    (presentExec w s).h = s.h := rfl

@[simp] theorem presentExec_l (w : Word) (s : State) :
    (presentExec w s).l = s.l := rfl

@[simp] theorem presentExec_f (w : Word) (s : State) :
    (presentExec w s).f = s.f := rfl

@[simp] theorem presentExec_fault (w : Word) (s : State) :
    (presentExec w s).fault = s.fault := rfl

@[simp] theorem presentExec_fcause (w : Word) (s : State) :
    (presentExec w s).fcause = s.fcause := rfl

@[simp] theorem presentExec_script (w : Word) (s : State) :
    (presentExec w s).script = s.script := rfl

@[simp] theorem presentNext_script (s : State) :
    (presentNext s).script = s.script.tail := by
  unfold presentNext; split <;> simp_all

@[simp] theorem presentNext_pins (s : State) :
    (presentNext s).pins = s.script.headD Pins.idle := by
  unfold presentNext; split <;> simp_all

@[simp] theorem write8_f (s : State) (r : Reg) (v : Byte) :
    (s.write8 r v).f = s.f := by
  cases r <;> rfl

@[simp] theorem write8_fault (s : State) (r : Reg) (v : Byte) :
    (s.write8 r v).fault = s.fault := by
  cases r <;> rfl

@[simp] theorem write8_fcause (s : State) (r : Reg) (v : Byte) :
    (s.write8 r v).fcause = s.fcause := by
  cases r <;> rfl

@[simp] theorem write8_pins (s : State) (r : Reg) (v : Byte) :
    (s.write8 r v).pins = s.pins := by
  cases r <;> rfl

@[simp] theorem write8_script (s : State) (r : Reg) (v : Byte) :
    (s.write8 r v).script = s.script := by
  cases r <;> rfl

@[simp] theorem write16_fault (s : State) (p : View) (w : Word) :
    (s.write16 p w).fault = s.fault := by
  cases p <;> rfl

@[simp] theorem write16_fcause (s : State) (p : View) (w : Word) :
    (s.write16 p w).fcause = s.fcause := by
  cases p <;> rfl

@[simp] theorem write16_pins (s : State) (p : View) (w : Word) :
    (s.write16 p w).pins = s.pins := by
  cases p <;> rfl

@[simp] theorem write16_script (s : State) (p : View) (w : Word) :
    (s.write16 p w).script = s.script := by
  cases p <;> rfl

@[simp] theorem write8_a_a (s : State) (v : Byte) :
    (s.write8 .a v).a = v := rfl

@[simp] theorem write8_a_b (s : State) (v : Byte) :
    (s.write8 .a v).b = s.b := rfl

@[simp] theorem write8_a_c (s : State) (v : Byte) :
    (s.write8 .a v).c = s.c := rfl

@[simp] theorem write8_a_d (s : State) (v : Byte) :
    (s.write8 .a v).d = s.d := rfl

@[simp] theorem write8_a_e (s : State) (v : Byte) :
    (s.write8 .a v).e = s.e := rfl

@[simp] theorem write8_a_h (s : State) (v : Byte) :
    (s.write8 .a v).h = s.h := rfl

@[simp] theorem write8_a_l (s : State) (v : Byte) :
    (s.write8 .a v).l = s.l := rfl

@[simp] theorem write8_b_a (s : State) (v : Byte) :
    (s.write8 .b v).a = s.a := rfl

@[simp] theorem write8_b_b (s : State) (v : Byte) :
    (s.write8 .b v).b = v := rfl

@[simp] theorem write8_b_c (s : State) (v : Byte) :
    (s.write8 .b v).c = s.c := rfl

@[simp] theorem write8_b_d (s : State) (v : Byte) :
    (s.write8 .b v).d = s.d := rfl

@[simp] theorem write8_b_e (s : State) (v : Byte) :
    (s.write8 .b v).e = s.e := rfl

@[simp] theorem write8_b_h (s : State) (v : Byte) :
    (s.write8 .b v).h = s.h := rfl

@[simp] theorem write8_b_l (s : State) (v : Byte) :
    (s.write8 .b v).l = s.l := rfl

@[simp] theorem write8_c_a (s : State) (v : Byte) :
    (s.write8 .c v).a = s.a := rfl

@[simp] theorem write8_c_b (s : State) (v : Byte) :
    (s.write8 .c v).b = s.b := rfl

@[simp] theorem write8_c_c (s : State) (v : Byte) :
    (s.write8 .c v).c = v := rfl

@[simp] theorem write8_c_d (s : State) (v : Byte) :
    (s.write8 .c v).d = s.d := rfl

@[simp] theorem write8_c_e (s : State) (v : Byte) :
    (s.write8 .c v).e = s.e := rfl

@[simp] theorem write8_c_h (s : State) (v : Byte) :
    (s.write8 .c v).h = s.h := rfl

@[simp] theorem write8_c_l (s : State) (v : Byte) :
    (s.write8 .c v).l = s.l := rfl

@[simp] theorem write8_d_a (s : State) (v : Byte) :
    (s.write8 .d v).a = s.a := rfl

@[simp] theorem write8_d_b (s : State) (v : Byte) :
    (s.write8 .d v).b = s.b := rfl

@[simp] theorem write8_d_c (s : State) (v : Byte) :
    (s.write8 .d v).c = s.c := rfl

@[simp] theorem write8_d_d (s : State) (v : Byte) :
    (s.write8 .d v).d = v := rfl

@[simp] theorem write8_d_e (s : State) (v : Byte) :
    (s.write8 .d v).e = s.e := rfl

@[simp] theorem write8_d_h (s : State) (v : Byte) :
    (s.write8 .d v).h = s.h := rfl

@[simp] theorem write8_d_l (s : State) (v : Byte) :
    (s.write8 .d v).l = s.l := rfl

@[simp] theorem write8_e_a (s : State) (v : Byte) :
    (s.write8 .e v).a = s.a := rfl

@[simp] theorem write8_e_b (s : State) (v : Byte) :
    (s.write8 .e v).b = s.b := rfl

@[simp] theorem write8_e_c (s : State) (v : Byte) :
    (s.write8 .e v).c = s.c := rfl

@[simp] theorem write8_e_d (s : State) (v : Byte) :
    (s.write8 .e v).d = s.d := rfl

@[simp] theorem write8_e_e (s : State) (v : Byte) :
    (s.write8 .e v).e = v := rfl

@[simp] theorem write8_e_h (s : State) (v : Byte) :
    (s.write8 .e v).h = s.h := rfl

@[simp] theorem write8_e_l (s : State) (v : Byte) :
    (s.write8 .e v).l = s.l := rfl

@[simp] theorem write8_h_a (s : State) (v : Byte) :
    (s.write8 .h v).a = s.a := rfl

@[simp] theorem write8_h_b (s : State) (v : Byte) :
    (s.write8 .h v).b = s.b := rfl

@[simp] theorem write8_h_c (s : State) (v : Byte) :
    (s.write8 .h v).c = s.c := rfl

@[simp] theorem write8_h_d (s : State) (v : Byte) :
    (s.write8 .h v).d = s.d := rfl

@[simp] theorem write8_h_e (s : State) (v : Byte) :
    (s.write8 .h v).e = s.e := rfl

@[simp] theorem write8_h_h (s : State) (v : Byte) :
    (s.write8 .h v).h = v := rfl

@[simp] theorem write8_h_l (s : State) (v : Byte) :
    (s.write8 .h v).l = s.l := rfl

@[simp] theorem write8_l_a (s : State) (v : Byte) :
    (s.write8 .l v).a = s.a := rfl

@[simp] theorem write8_l_b (s : State) (v : Byte) :
    (s.write8 .l v).b = s.b := rfl

@[simp] theorem write8_l_c (s : State) (v : Byte) :
    (s.write8 .l v).c = s.c := rfl

@[simp] theorem write8_l_d (s : State) (v : Byte) :
    (s.write8 .l v).d = s.d := rfl

@[simp] theorem write8_l_e (s : State) (v : Byte) :
    (s.write8 .l v).e = s.e := rfl

@[simp] theorem write8_l_h (s : State) (v : Byte) :
    (s.write8 .l v).h = s.h := rfl

@[simp] theorem write8_l_l (s : State) (v : Byte) :
    (s.write8 .l v).l = v := rfl

@[simp] theorem write16_bc_a (s : State) (w : Word) :
    (s.write16 .bc w).a = s.a := rfl

@[simp] theorem write16_bc_b (s : State) (w : Word) :
    (s.write16 .bc w).b = hiByte w := rfl

@[simp] theorem write16_bc_c (s : State) (w : Word) :
    (s.write16 .bc w).c = loByte w := rfl

@[simp] theorem write16_bc_d (s : State) (w : Word) :
    (s.write16 .bc w).d = s.d := rfl

@[simp] theorem write16_bc_e (s : State) (w : Word) :
    (s.write16 .bc w).e = s.e := rfl

@[simp] theorem write16_bc_h (s : State) (w : Word) :
    (s.write16 .bc w).h = s.h := rfl

@[simp] theorem write16_bc_l (s : State) (w : Word) :
    (s.write16 .bc w).l = s.l := rfl

@[simp] theorem write16_bc_f (s : State) (w : Word) :
    (s.write16 .bc w).f = s.f := rfl

@[simp] theorem write16_de_a (s : State) (w : Word) :
    (s.write16 .de w).a = s.a := rfl

@[simp] theorem write16_de_b (s : State) (w : Word) :
    (s.write16 .de w).b = s.b := rfl

@[simp] theorem write16_de_c (s : State) (w : Word) :
    (s.write16 .de w).c = s.c := rfl

@[simp] theorem write16_de_d (s : State) (w : Word) :
    (s.write16 .de w).d = hiByte w := rfl

@[simp] theorem write16_de_e (s : State) (w : Word) :
    (s.write16 .de w).e = loByte w := rfl

@[simp] theorem write16_de_h (s : State) (w : Word) :
    (s.write16 .de w).h = s.h := rfl

@[simp] theorem write16_de_l (s : State) (w : Word) :
    (s.write16 .de w).l = s.l := rfl

@[simp] theorem write16_de_f (s : State) (w : Word) :
    (s.write16 .de w).f = s.f := rfl

@[simp] theorem write16_hl_a (s : State) (w : Word) :
    (s.write16 .hl w).a = s.a := rfl

@[simp] theorem write16_hl_b (s : State) (w : Word) :
    (s.write16 .hl w).b = s.b := rfl

@[simp] theorem write16_hl_c (s : State) (w : Word) :
    (s.write16 .hl w).c = s.c := rfl

@[simp] theorem write16_hl_d (s : State) (w : Word) :
    (s.write16 .hl w).d = s.d := rfl

@[simp] theorem write16_hl_e (s : State) (w : Word) :
    (s.write16 .hl w).e = s.e := rfl

@[simp] theorem write16_hl_h (s : State) (w : Word) :
    (s.write16 .hl w).h = hiByte w := rfl

@[simp] theorem write16_hl_l (s : State) (w : Word) :
    (s.write16 .hl w).l = loByte w := rfl

@[simp] theorem write16_hl_f (s : State) (w : Word) :
    (s.write16 .hl w).f = s.f := rfl

@[simp] theorem write16_af_a (s : State) (w : Word) :
    (s.write16 .af w).a = hiByte w := rfl

@[simp] theorem write16_af_b (s : State) (w : Word) :
    (s.write16 .af w).b = s.b := rfl

@[simp] theorem write16_af_c (s : State) (w : Word) :
    (s.write16 .af w).c = s.c := rfl

@[simp] theorem write16_af_d (s : State) (w : Word) :
    (s.write16 .af w).d = s.d := rfl

@[simp] theorem write16_af_e (s : State) (w : Word) :
    (s.write16 .af w).e = s.e := rfl

@[simp] theorem write16_af_h (s : State) (w : Word) :
    (s.write16 .af w).h = s.h := rfl

@[simp] theorem write16_af_l (s : State) (w : Word) :
    (s.write16 .af w).l = s.l := rfl

@[simp] theorem write16_af_f (s : State) (w : Word) :
    (s.write16 .af w).f = Flags.fromByte (loByte w) := rfl

@[simp] theorem read8_a (s : State) :
    s.read8 .a = s.a := rfl

@[simp] theorem read8_b (s : State) :
    s.read8 .b = s.b := rfl

@[simp] theorem read8_c (s : State) :
    s.read8 .c = s.c := rfl

@[simp] theorem read8_d (s : State) :
    s.read8 .d = s.d := rfl

@[simp] theorem read8_e (s : State) :
    s.read8 .e = s.e := rfl

@[simp] theorem read8_h (s : State) :
    s.read8 .h = s.h := rfl

@[simp] theorem read8_l (s : State) :
    s.read8 .l = s.l := rfl

end Sys2Proof.Machine
end

