-- ==== Sys2Proof/Laws/Ops.lean ====
section
/-! SUPPORT. One lemma for each shared operation, saying once all it can do; the provers cite these instead of unfolding it. -/

namespace Sys2Proof.Machine

theorem read8_write8 (s : State) (r q : Reg) (v : Byte) :
    (s.write8 r v).read8 q = if q = r then v else s.read8 q := by
  cases r <;> cases q <;> rfl

@[simp] theorem read8_write8_same (s : State) (r : Reg) (v : Byte) : (s.write8 r v).read8 r = v := by
  simp [read8_write8]

@[simp] theorem read8_setFlags (s : State) (f : Flags) (q : Reg) : (s.setFlags f).read8 q = s.read8 q := by
  cases q <;> rfl

@[simp] theorem read8_raiseIllegal (cause : Cause) (s : State) (q : Reg) :
    (raiseIllegal cause s).read8 q = s.read8 q := by
  cases q <;> rfl

@[simp] theorem read8_presentNext (s : State) (q : Reg) : (presentNext s).read8 q = s.read8 q := by
  cases q <;> simp

@[simp] theorem write8_read8 (s : State) (r : Reg) : s.write8 r (s.read8 r) = s := by
  cases r <;> rfl

theorem write8_write8 (s : State) (r : Reg) (v w : Byte) : (s.write8 r v).write8 r w = s.write8 r w := by
  cases r <;> rfl

theorem setFlags_write8 (s : State) (r : Reg) (v : Byte) (f : Flags) :
    (s.setFlags f).write8 r v = (s.write8 r v).setFlags f := by
  cases r <;> rfl

@[simp] theorem setFlags_setFlags (s : State) (f g : Flags) : (s.setFlags f).setFlags g = s.setFlags g := rfl

@[simp] theorem presentNext_toBlock (s : State) : (presentNext s).toBlock = s.toBlock := by
  unfold presentNext; split <;> rfl

/-- An operation that writes one register and the flags: all it can do. -/
theorem writeBoth_next {r : Reg} {res : Byte} {f : Flags} {s t : State} (h : writeBoth r res f s = .next t) :
    t.read8 r = res ∧ t.f = f ∧ (∀ q, q ≠ r → t.read8 q = s.read8 q) ∧
      t.fault = s.fault ∧ t.fcause = s.fcause ∧ t.pins = s.pins ∧ t.script = s.script := by
  cases h
  exact ⟨by simp, rfl, fun q hq => by simp [read8_write8, hq], by simp, by simp, by simp, by simp⟩

/-- An operation that writes the flags only: all it can do. -/
theorem writeFlags_next {f : Flags} {s t : State} (h : writeFlags f s = .next t) :
    t.f = f ∧ (∀ q, t.read8 q = s.read8 q) ∧
      t.fault = s.fault ∧ t.fcause = s.fcause ∧ t.pins = s.pins ∧ t.script = s.script := by
  cases h
  exact ⟨rfl, fun q => by simp, rfl, rfl, rfl, rfl⟩

/-- An operation that writes one register and not the flags: all it can do. -/
theorem writeReg_next {r : Reg} {res : Byte} {s t : State} (h : writeReg r res s = .next t) :
    t.read8 r = res ∧ t.f = s.f ∧ (∀ q, q ≠ r → t.read8 q = s.read8 q) ∧
      t.fault = s.fault ∧ t.fcause = s.fcause ∧ t.pins = s.pins ∧ t.script = s.script := by
  cases h
  exact ⟨by simp, by simp, fun q hq => by simp [read8_write8, hq], by simp, by simp, by simp, by simp⟩

/-- A command by its code. -/
theorem runCommand_idle {s : State} (h : s.pins.cmd = 0#2) : runCommand s = .next s := by
  simp [runCommand, h, cmdOf, cmdIdle]

theorem runCommand_exec {s : State} (h : s.pins.cmd = 1#2) : runCommand s = cmdExec s := by
  simp [runCommand, h, cmdOf]

theorem runCommand_wr8 {s : State} (h : s.pins.cmd = 2#2) : runCommand s = cmdWr8 s := by
  simp [runCommand, h, cmdOf]

theorem runCommand_wr16 {s : State} (h : s.pins.cmd = 3#2) : runCommand s = cmdWr16 s := by
  simp [runCommand, h, cmdOf]

/-- One edge, by the cases of its priority: reset, frozen, or the command. -/
theorem clockEdge_cases {s t : State} (h : clockEdge s = .next t) :
    (s.pins.rst = true ∧ t = resetBlock s) ∨ (s.pins.rst = false ∧ s.fault = true ∧ t = s) ∨
      (s.pins.rst = false ∧ s.fault = false ∧ runCommand s = .next t) := by
  unfold clockEdge at h
  split at h
  · exact .inl ⟨‹_›, by cases h; rfl⟩
  · split at h
    · exact .inr (.inl ⟨by simp_all, ‹_›, by cases h; rfl⟩)
    · exact .inr (.inr ⟨by simp_all, by simp_all, h⟩)

end Sys2Proof.Machine
end

