-- ==== Sys2Proof/Laws/PerInstr.lean ====
section
/-! SUPPORT. The family of lemmas that speaks of every constructor of Instr: the reserved bits of its word are 0 (30_encoding.md
R72). -/

namespace Sys2Proof.Laws.ReservedBitsClear

/-- 30_encoding.md R72: desc[7] and desc[3] are 0 in the word of every operation. -/
def Statement (i : Instr) : Prop := (encode i).getLsbD 7 = false ∧ (encode i).getLsbD 3 = false

theorem layout_reserved (opc : BitVec 8) (idx sel : BitVec 3) :
    (layout opc idx sel).getLsbD 7 = false ∧ (layout opc idx sel).getLsbD 3 = false := by
  unfold layout
  constructor <;> simp only [BitVec.getLsbD_append] <;> rfl

theorem add (r : Reg) : Statement (.add r) := layout_reserved _ _ _
theorem adc (r : Reg) : Statement (.adc r) := layout_reserved _ _ _
theorem sub (r : Reg) : Statement (.sub r) := layout_reserved _ _ _
theorem sbc (r : Reg) : Statement (.sbc r) := layout_reserved _ _ _
theorem and (r : Reg) : Statement (.and r) := layout_reserved _ _ _
theorem or (r : Reg) : Statement (.or r) := layout_reserved _ _ _
theorem xor (r : Reg) : Statement (.xor r) := layout_reserved _ _ _
theorem cp (r : Reg) : Statement (.cp r) := layout_reserved _ _ _
theorem inc (r : Reg) : Statement (.inc r) := layout_reserved _ _ _
theorem dec (r : Reg) : Statement (.dec r) := layout_reserved _ _ _
theorem addhl (p : Pair) : Statement (.addhl p) := layout_reserved _ _ _
theorem ccf : Statement .ccf := layout_reserved _ _ _
theorem scf : Statement .scf := layout_reserved _ _ _
theorem rra : Statement .rra := layout_reserved _ _ _
theorem rla : Statement .rla := layout_reserved _ _ _
theorem rrca : Statement .rrca := layout_reserved _ _ _
theorem rrla : Statement .rrla := layout_reserved _ _ _
theorem cpl : Statement .cpl := layout_reserved _ _ _
theorem daa : Statement .daa := layout_reserved _ _ _
theorem bit (r : Reg) (n : BitIndex) : Statement (.bit r n) := layout_reserved _ _ _
theorem resetBit (r : Reg) (n : BitIndex) : Statement (.resetBit r n) := layout_reserved _ _ _
theorem setBit (r : Reg) (n : BitIndex) : Statement (.setBit r n) := layout_reserved _ _ _
theorem srl (r : Reg) : Statement (.srl r) := layout_reserved _ _ _
theorem rr (r : Reg) : Statement (.rr r) := layout_reserved _ _ _
theorem rl (r : Reg) : Statement (.rl r) := layout_reserved _ _ _
theorem rrc (r : Reg) : Statement (.rrc r) := layout_reserved _ _ _
theorem rlc (r : Reg) : Statement (.rlc r) := layout_reserved _ _ _
theorem sra (r : Reg) : Statement (.sra r) := layout_reserved _ _ _
theorem sla (r : Reg) : Statement (.sla r) := layout_reserved _ _ _
theorem swap (r : Reg) : Statement (.swap r) := layout_reserved _ _ _

end Sys2Proof.Laws.ReservedBitsClear
end

