-- ==== Sys2Proof/Laws/Step.lean ====
section
/-! SUPPORT. What a step can do, said once: the edge's outcome with the next input tuple on the pins. -/

namespace Sys2Proof.Machine

theorem step_of_clockEdge {s t : State} (h : clockEdge s = .next t) : step s = .next (presentNext t) := by
  simp [step, edgeThenPresent, h]

/-- A step that answers a next state ran one edge. -/
theorem step_next {s u : State} (h : step s = .next u) : ∃ t, clockEdge s = .next t ∧ u = presentNext t := by
  unfold step edgeThenPresent at h
  split at h
  · exact ⟨_, ‹_›, by cases h; rfl⟩
  · cases h
  · cases h

end Sys2Proof.Machine
end

