-- ==== Sys2Proof/Machine/Text.lean ====
section
/-! DEFINITION. How the spec writes a descriptor (30_encoding.md R83, R84): a mnemonic and its operands, the register before the bit
index. It is kept as a mnemonic with a list of operand names, the punctuation left out (DESIGN CHOICE, log entry 9, safe). -/

namespace Sys2Proof

/-- A register's name (R83). -/
def Reg.text : Reg → String
  | .a => "A"
  | .b => "B"
  | .c => "C"
  | .d => "D"
  | .e => "E"
  | .h => "H"
  | .l => "L"

/-- A pair's name (R83). -/
def Pair.text : Pair → String
  | .bc => "BC"
  | .de => "DE"
  | .hl => "HL"
  | .sp => "SP"
  | .af => "AF"

/-- A bit index as a digit (R83). -/
def digitText (n : BitIndex) : String :=
  match n.val with
  | 0 => "0"
  | 1 => "1"
  | 2 => "2"
  | 3 => "3"
  | 4 => "4"
  | 5 => "5"
  | 6 => "6"
  | _ => "7"

/-- The descriptor as written (R83): `bit .d 3` is BIT(D,3). -/
def Instr.text : Instr → String × List String
  | .add r => ("ADD", [r.text])
  | .adc r => ("ADC", [r.text])
  | .sub r => ("SUB", [r.text])
  | .sbc r => ("SBC", [r.text])
  | .and r => ("AND", [r.text])
  | .or r => ("OR", [r.text])
  | .xor r => ("XOR", [r.text])
  | .cp r => ("CP", [r.text])
  | .inc r => ("INC", [r.text])
  | .dec r => ("DEC", [r.text])
  | .addhl p => ("ADDHL", [p.text])
  | .ccf => ("CCF", [])
  | .scf => ("SCF", [])
  | .rra => ("RRA", [])
  | .rla => ("RLA", [])
  | .rrca => ("RRCA", [])
  | .rrla => ("RRLA", [])
  | .cpl => ("CPL", [])
  | .daa => ("DAA", [])
  | .bit r n => ("BIT", [r.text, digitText n])
  | .resetBit r n => ("RESET", [r.text, digitText n])
  | .setBit r n => ("SET", [r.text, digitText n])
  | .srl r => ("SRL", [r.text])
  | .rr r => ("RR", [r.text])
  | .rl r => ("RL", [r.text])
  | .rrc r => ("RRC", [r.text])
  | .rlc r => ("RLC", [r.text])
  | .sra r => ("SRA", [r.text])
  | .sla r => ("SLA", [r.text])
  | .swap r => ("SWAP", [r.text])

/-- The spec's own name for each of the two other names it accepts (R84); any other name is its own. -/
def canonicalName (name : String) : String :=
  if name = "RES" then "RESET" else if name = "RLCA" then "RRLA" else name

end Sys2Proof
end

