-- ==== Sys2Proof/Tests/Slice0.lean ====
section
/-! SUPPORT. The model's own tests, each one decode or one step. Expected values are those of spec/95_test_vectors.md (section named in the comment) or
of the rule named; the witnesses at the end show that the statements' hypotheses can be met. -/

namespace Sys2Proof.Tests

open Sys2Proof Sys2Proof.Machine

/-! ### Well-formedness -/

/-- 41_addhl.md R120: AF is not an operand of ADDHL, so the check refuses this term. -/
theorem test_addhl_af_is_ill_formed : Instr.wellFormed (.addhl .af) = false := by decide

theorem test_addhl_sp_is_well_formed : Instr.wellFormed (.addhl .sp) = true := by decide

/-! ### Decoding: a word of every constructor, bit by bit from 30_encoding.md R76 -/

theorem test_decode_arithmetic_words :
    decode 0b0000000000000010#16 = .ok (.add .c) ∧ decode 0b0000000100000001#16 = .ok (.adc .b) ∧
    decode 0b0000001000000010#16 = .ok (.sub .c) ∧ decode 0b0000001100000110#16 = .ok (.sbc .l) ∧
    decode 0b0000011100000101#16 = .ok (.cp .h) ∧ decode 0b0000100000000001#16 = .ok (.inc .b) ∧
    decode 0b0000100100000000#16 = .ok (.dec .a) := ⟨rfl, rfl, rfl, rfl, rfl, rfl, rfl⟩

theorem test_decode_bitwise_words :
    decode 0b0000010000000011#16 = .ok (.and .d) ∧ decode 0b0000010100000100#16 = .ok (.or .e) ∧
    decode 0b0000011000000000#16 = .ok (.xor .a) := ⟨rfl, rfl, rfl⟩

theorem test_decode_addhl_words :
    decode 0b0000101000000000#16 = .ok (.addhl .bc) ∧ decode 0b0000101000000001#16 = .ok (.addhl .de) ∧
    decode 0b0000101000000010#16 = .ok (.addhl .hl) ∧ decode 0b0000101000000011#16 = .ok (.addhl .sp) :=
  ⟨rfl, rfl, rfl, rfl⟩

theorem test_decode_no_operand_words :
    decode 0b0000101100000000#16 = .ok .ccf ∧ decode 0b0000110000000000#16 = .ok .scf ∧
    decode 0b0000110100000000#16 = .ok .rra ∧ decode 0b0000111000000000#16 = .ok .rla ∧
    decode 0b0000111100000000#16 = .ok .rrca ∧ decode 0b0001000000000000#16 = .ok .rrla ∧
    decode 0b0001000100000000#16 = .ok .cpl ∧ decode 0b0001001000000000#16 = .ok .daa :=
  ⟨rfl, rfl, rfl, rfl, rfl, rfl, rfl, rfl⟩

theorem test_decode_bit_words :
    decode 0b0001001100110011#16 = .ok (.bit .d 3) ∧ decode 0b0001001101110110#16 = .ok (.bit .l 7) ∧
    decode 0b0001010001110000#16 = .ok (.resetBit .a 7) ∧ decode 0b0001010001000101#16 = .ok (.resetBit .h 4) ∧
    decode 0b0001010100000110#16 = .ok (.setBit .l 0) := ⟨rfl, rfl, rfl, rfl, rfl⟩

theorem test_decode_shift_words :
    decode 0b0001011000000000#16 = .ok (.srl .a) ∧ decode 0b0001011100000101#16 = .ok (.rr .h) ∧
    decode 0b0001100000000101#16 = .ok (.rl .h) ∧ decode 0b0001100100000001#16 = .ok (.rrc .b) ∧
    decode 0b0001101000000001#16 = .ok (.rlc .b) ∧ decode 0b0001101100000011#16 = .ok (.sra .d) ∧
    decode 0b0001110000000110#16 = .ok (.sla .l) ∧ decode 0b0001110100000100#16 = .ok (.swap .e) :=
  ⟨rfl, rfl, rfl, rfl, rfl, rfl, rfl, rfl⟩

/-- 95_test_vectors.md 2.2. -/
theorem test_decode_illegal_words :
    decode 0x1E00#16 = .error .unknownOpcode ∧ decode 0xFF00#16 = .error .unknownOpcode ∧
    decode 0x0007#16 = .error .noRegister ∧ decode 0x0A04#16 = .error .noPair ∧ decode 0x0A07#16 = .error .noPair ∧
    decode 0x0080#16 = .error .reservedBit ∧ decode 0x0008#16 = .error .reservedBit ∧
    decode 0x0012#16 = .error .strayIndex ∧ decode 0x1201#16 = .error .straySelector ∧
    decode 0x0B10#16 = .error .strayIndex ∧ decode 0x1337#16 = .error .noRegister ∧
    decode 0x13B3#16 = .error .reservedBit ∧ decode 0x1D14#16 = .error .strayIndex :=
  ⟨rfl, rfl, rfl, rfl, rfl, rfl, rfl, rfl, rfl, rfl, rfl, rfl, rfl⟩

/-- The words of 95_test_vectors.md 2.1, from the encoder. -/
theorem test_encode_words :
    encode (.add .l) = 0x0006#16 ∧ encode (.addhl .sp) = 0x0A03#16 ∧ encode .daa = 0x1200#16 ∧
    encode (.bit .d 3) = 0x1333#16 ∧ encode (.resetBit .a 7) = 0x1470#16 ∧ encode (.setBit .l 7) = 0x1576#16 ∧
    encode (.swap .e) = 0x1D04#16 := by decide

/-- 30_encoding.md R76, R77: 30 opcodes and no others. -/
theorem test_thirty_opcodes :
    ((List.range 256).filter (fun n => (shapeOf n).isSome)).length = Config.operations := by decide

theorem test_decodeTableWord_runs : decodeTableWord 16 0x1333 = some (.bit .d 3) ∧ decodeTableWord 16 0x1E00 = none := ⟨rfl, rfl⟩

/-- 30_encoding.md R83, R84. -/
theorem test_text_of_bit : Instr.text (.bit .d 3) = ("BIT", ["D", "3"]) ∧ canonicalName "RLCA" = "RRLA" := by decide

/-! ### Results: 95_test_vectors.md section 3 -/

/-- A state with A = a, register r = v and the packed flags f, the rest as after reset. -/
def start (a : Byte) (r : Reg) (v f : Byte) : State :=
  ((State.reset.write8 .a a).write8 r v).setFlags (Flags.fromByte f)

/-- A state with HL, BC and sp_in given. -/
def startHl (hl bc sp : Word) : State :=
  { (State.reset.write16 .hl hl).write16 .bc bc with pins := { Pins.idle with spIn := sp } }

/-- Register q and the packed flags of a next state. -/
def regAndF (q : Reg) : Host.Outcome State Fault Refusal → Option (Byte × Byte)
  | .next t => some (t.read8 q, t.f.toByte)
  | .fault _ => none
  | .refused _ => none

/-- HL and the packed flags of a next state. -/
def hlAndF : Host.Outcome State Fault Refusal → Option (Word × Byte)
  | .next t => some (t.read16 .hl, t.f.toByte)
  | .fault _ => none
  | .refused _ => none

theorem test_add_wraps : regAndF .a (exec (.add .b) (start 0xFF .b 0x01 0x00)) = some (0x00, 0xB0) := by decide

theorem test_add_same_register : regAndF .a (exec (.add .a) (start 0x88 .a 0x88 0x00)) = some (0x10, 0x30) := by decide

theorem test_adc_second_overflow : regAndF .a (exec (.adc .b) (start 0xFF .b 0x00 0x10)) = some (0x00, 0xB0) := by decide

theorem test_adc_both_full : regAndF .a (exec (.adc .b) (start 0xFF .b 0xFF 0x10)) = some (0xFF, 0x30) := by decide

theorem test_sub_wraps : regAndF .a (exec (.sub .c) (start 0x01 .c 0x03 0x00)) = some (0xFE, 0x70) := by decide

theorem test_sub_ignores_old_carry : regAndF .a (exec (.sub .a) (start 0x5A .a 0x5A 0x10)) = some (0x00, 0xC0) := by decide

theorem test_sbc_borrow_of_full_operand : regAndF .a (exec (.sbc .b) (start 0x00 .b 0xFF 0x10)) = some (0x00, 0xF0) := by decide

theorem test_sbc_half_borrow_only : regAndF .a (exec (.sbc .b) (start 0x10 .b 0x0F 0x10)) = some (0x00, 0xE0) := by decide

theorem test_cp_keeps_a : regAndF .a (exec (.cp .h) (start 0x3C .h 0x40 0x00)) = some (0x3C, 0x50) := by decide

theorem test_and_sets_half : regAndF .a (exec (.and .d) (start 0x01 .d 0x04 0x00)) = some (0x00, 0xA0) := by decide

theorem test_or_clears_half : regAndF .a (exec (.or .e) (start 0x50 .e 0x0A 0xF0)) = some (0x5A, 0x00) := by decide

theorem test_xor_self : regAndF .a (exec (.xor .a) (start 0xA7 .a 0xA7 0x70)) = some (0x00, 0x80) := by decide

theorem test_inc_wrap_keeps_carry : regAndF .b (exec (.inc .b) (start 0x00 .b 0xFF 0x10)) = some (0x00, 0xB0) := by decide

theorem test_dec_wrap_keeps_carry : regAndF .b (exec (.dec .b) (start 0x00 .b 0x00 0x00)) = some (0xFF, 0x60) := by decide

theorem test_addhl_writes_zero : hlAndF (exec (.addhl .bc) (startHl 0xFFFF 0x0001 0)) = some (0x0000, 0xB0) := by decide

theorem test_addhl_sp_pin : hlAndF (exec (.addhl .sp) (startHl 0x1000 0 0xFFF8)) = some (0x0FF8, 0x10) := by decide

theorem test_ccf : regAndF .a (exec .ccf (start 0x42 .b 0 0xF0)) = some (0x42, 0x80) := by decide

theorem test_scf : regAndF .a (exec .scf (start 0x42 .b 0 0xE0)) = some (0x42, 0x90) := by decide

theorem test_rra_to_zero : regAndF .a (exec .rra (start 0x01 .b 0 0x00)) = some (0x00, 0x10) := by decide

theorem test_rra_carry_in : regAndF .a (exec .rra (start 0x81 .b 0 0x10)) = some (0xC0, 0x10) := by decide

theorem test_rla : regAndF .a (exec .rla (start 0x95 .b 0 0x10)) = some (0x2B, 0x10) := by decide

theorem test_rrca : regAndF .a (exec .rrca (start 0x3B .b 0 0x00)) = some (0x9D, 0x10) := by decide

theorem test_rrla : regAndF .a (exec .rrla (start 0x85 .b 0 0x00)) = some (0x0B, 0x10) := by decide

theorem test_cpl_keeps_zero_flag : regAndF .a (exec .cpl (start 0xFF .b 0 0x00)) = some (0x00, 0x60) := by decide

theorem test_daa_above_99 : regAndF .a (exec .daa (start 0x9A .b 0 0x00)) = some (0x00, 0x90) := by decide

theorem test_daa_after_subtraction : regAndF .a (exec .daa (start 0x66 .b 0 0x70)) = some (0x00, 0xD0) := by decide

theorem test_bit_clear : regAndF .d (exec (.bit .d 3) (start 0x00 .d 0x04 0x00)) = some (0x04, 0xA0) := by decide

theorem test_bit_keeps_carry : regAndF .a (exec (.bit .a 7) (start 0x80 .a 0x80 0x10)) = some (0x80, 0x30) := by decide

theorem test_reset_bit : regAndF .a (exec (.resetBit .a 7) (start 0xFF .a 0xFF 0xF0)) = some (0x7F, 0xF0) := by decide

theorem test_set_bit_is_or : regAndF .l (exec (.setBit .l 7) (start 0x00 .l 0x10 0xF0)) = some (0x90, 0xF0) := by decide

theorem test_srl : regAndF .b (exec (.srl .b) (start 0x00 .b 0x01 0x00)) = some (0x00, 0x90) := by decide

theorem test_rr : regAndF .h (exec (.rr .h) (start 0x00 .h 0x02 0x10)) = some (0x81, 0x00) := by decide

theorem test_rr_a_sets_zero : regAndF .a (exec (.rr .a) (start 0x01 .a 0x01 0x00)) = some (0x00, 0x90) := by decide

theorem test_rl : regAndF .h (exec (.rl .h) (start 0x00 .h 0x81 0x10)) = some (0x03, 0x10) := by decide

theorem test_rrc : regAndF .b (exec (.rrc .b) (start 0x00 .b 0x01 0x00)) = some (0x80, 0x10) := by decide

theorem test_rlc : regAndF .b (exec (.rlc .b) (start 0x00 .b 0x85 0x00)) = some (0x0B, 0x10) := by decide

theorem test_sra : regAndF .d (exec (.sra .d) (start 0x00 .d 0x8A 0x00)) = some (0xC5, 0x00) := by decide

theorem test_sla : regAndF .l (exec (.sla .l) (start 0x00 .l 0x80 0x00)) = some (0x00, 0x90) := by decide

theorem test_swap : regAndF .e (exec (.swap .e) (start 0x00 .e 0xA5 0x10)) = some (0x5A, 0x00) := by decide

/-! ### One edge: 95_test_vectors.md sections 3.8 and 3.9 -/

/-- The state with one command on the pins. -/
def onPins (p : Pins) (s : State) : State := { s with pins := p }

/-- The block after one step. -/
def blockAfter : Host.Outcome State Fault Refusal → Option Block
  | .next t => some t.toBlock
  | .fault _ => none
  | .refused _ => none

theorem test_wr8_drops_upper_byte :
    blockAfter (step (onPins ⟨false, 2, 0, 2, 0xAB03, 0⟩ State.reset)) = some { Block.reset with c := 0x03 } := by decide

theorem test_wr16_af_drops_low_nibble :
    blockAfter (step (onPins ⟨false, 3, 0, 4, 0x12FF, 0⟩ State.reset)) =
      some { Block.reset with a := 0x12, f := ⟨true, true, true, true⟩ } := by decide

theorem test_idle_ignores_the_rest :
    blockAfter (step (onPins ⟨false, 0, 0x1E00, 7, 0xFFFF, 0xFFFF⟩ (start 0x12 .b 0x34 0x90))) =
      some (start 0x12 .b 0x34 0x90).toBlock := by decide

theorem test_illegal_word_latches :
    blockAfter (step (onPins ⟨false, 1, 0x1E00, 0, 0, 0⟩ (start 0x12 .a 0x12 0xF0))) =
      some { (start 0x12 .a 0x12 0xF0).toBlock with fault := true, fcause := 1 } := by decide

theorem test_wr16_sp_latches :
    blockAfter (step (onPins ⟨false, 3, 0, 3, 0xBEEF, 0⟩ State.reset)) =
      some { Block.reset with fault := true, fcause := 2 } := by decide

theorem test_faulted_ignores_and_keeps_cause :
    blockAfter (step (onPins ⟨false, 2, 0, 7, 0, 0⟩ (raiseIllegal .illegalDescriptor State.reset))) =
      some { Block.reset with fault := true, fcause := 1 } := by decide

theorem test_reset_beats_illegal_word :
    blockAfter (step (onPins ⟨true, 1, 0x0007, 0, 0, 0⟩ (raiseIllegal .illegalWriteSelector (start 1 .b 2 0xF0)))) =
      some Block.reset := by decide

theorem test_placed_word_runs :
    blockAfter (step (State.reset.withFetchWord 16 0x0C00)) = some { Block.reset with f := ⟨false, false, false, true⟩ } := by decide

/-! ### Witnesses: states and operands that meet the statements' hypotheses -/

/-- AddhlAddsPairIntoHl: each operand. -/
theorem witness_addhl_operands :
    (let s := startHl 0 0x1234 0xFFF8
     0x1234 = s.b.toNat * 256 + s.c.toNat ∧ 0 = s.d.toNat * 256 + s.e.toNat ∧
     0 = s.h.toNat * 256 + s.l.toNat ∧ 0xFFF8 = s.pins.spIn.toNat) := by decide

/-- DaaFollowsItsPseudocode: after an addition and after a subtraction, with the adjustment of the boundary. -/
theorem witness_daa_branches :
    ((start 0x9A .b 0 0x00).f.n = false ∧ 0x66 = (if (false = true ∨ 0x9A > 0x99) then 0x60 else 0) + (if (false = true ∨ 0x9A % 16 > 9) then 0x06 else 0)) ∧
    ((start 0x00 .b 0 0x70).f.n = true ∧ (start 0x00 .b 0 0x70).f.c = true ∧ (start 0x00 .b 0 0x70).f.h = true) := by decide

/-- DaaOutcomesByTable: every row's condition, at the boundary of its range. -/
theorem witness_daa_rows :
    (¬ 0x99 > 0x99 ∧ ¬ 0x99 % 16 > 9) ∧ (¬ 0x8A > 0x99 ∧ 0x8A % 16 > 9) ∧ (0xA0 > 0x99 ∧ ¬ 0xA0 % 16 > 9) ∧
    (0x9A > 0x99 ∧ 0x9A % 16 > 9) ∧
    [0x00, 0x20, 0x10, 0x30, 0x40, 0x60, 0x50, 0x70].map (fun f : Byte => let g := (start 0 .b 0 f).f; (g.n, g.c, g.h)) =
      [(false, false, false), (false, false, true), (false, true, false), (false, true, true),
       (true, false, false), (true, false, true), (true, true, false), (true, true, true)] := by decide

/-- AccumulatorAndGeneralRotatesDifferInZeroOnly: the four pairs of words. -/
theorem witness_rotate_pairs :
    decode 0x0D00#16 = .ok .rra ∧ decode 0x1700#16 = .ok (.rr .a) ∧ decode 0x0E00#16 = .ok .rla ∧ decode 0x1800#16 = .ok (.rl .a) ∧
    decode 0x0F00#16 = .ok .rrca ∧ decode 0x1900#16 = .ok (.rrc .a) ∧ decode 0x1000#16 = .ok .rrla ∧
    decode 0x1A00#16 = .ok (.rlc .a) := ⟨rfl, rfl, rfl, rfl, rfl, rfl, rfl, rfl⟩

/-- CarriesAreTheNinthAndFifthBits: a register other than A. -/
theorem witness_register_not_a : Reg.b ≠ Reg.a ∧ Reg.l ≠ Reg.a := by decide

/-- LastOfSetAndResetDecidesTheBit: bits that are already 1 and already 0. -/
theorem witness_bits_already_set_and_clear :
    ((start 0 .l 0x80 0).read8 .l).getLsbD 7 = true ∧ ((start 0 .l 0x80 0).read8 .l).getLsbD 0 = false := by decide

/-- DecimalAdditionThroughDaa and DecimalSubtractionThroughDaa: the largest and the smallest operands. -/
theorem witness_decimal_operands :
    ((start 0x99 .b 0x99 0x10).a = bcdByte 99 ∧ (start 0x99 .b 0x99 0x10).read8 .b = bcdByte 99) ∧
    ((start 0x00 .b 0x99 0x10).a = bcdByte 0 ∧ (start 0x00 .b 0x99 0x10).read8 .b = bcdByte 99) ∧ 99 < 100 ∧ 0 < 100 := by decide

/-- DecodeOfEncodeIsTheOperation, EncodeOfDecodeIsTheWord, EveryOperationCompletesWithinItsFrame. -/
theorem witness_well_formed_and_decoding :
    Instr.wellFormed (.setBit .l 7) = true ∧ Instr.wellFormed (.addhl .bc) = true ∧ decode 0x1576#16 = .ok (.setBit .l 7) :=
  ⟨rfl, rfl, rfl⟩

/-- StepRunsDecodedOperation, PlacedWordRunsAtTheNextStep. -/
theorem witness_exec_on_the_pins :
    (let s := onPins ⟨false, 1, 0x0C00, 0, 0, 0⟩ State.reset
     s.pins.rst = false ∧ s.fault = false ∧ s.pins.cmd = 1#2 ∧ decode s.pins.desc = .ok .scf) ∧
    Instr.wellFormed .scf = true ∧ State.reset.fault = false := ⟨⟨rfl, rfl, rfl, rfl⟩, rfl, rfl⟩

/-- IllegalDescriptorLatchesCause1, StrictStepFaultsExactlyOnIllegalCommands. -/
theorem witness_illegal_descriptor :
    (let s := onPins ⟨false, 1, 0x1E00, 0, 0, 0⟩ State.reset
     s.pins.rst = false ∧ s.fault = false ∧ s.pins.cmd = 1#2 ∧ legal s.pins.desc = false ∧ illegalCause s.pins = some 1#2) := by decide

/-- IllegalWriteSelectorLatchesCause2: all hypotheses together, for each selector. -/
theorem witness_illegal_selectors :
    ∀ p ∈ [(⟨false, 2, 0, 7, 0, 0⟩ : Pins), ⟨false, 3, 0, 3, 0, 0⟩, ⟨false, 3, 0, 5, 0, 0⟩, ⟨false, 3, 0, 6, 0, 0⟩, ⟨false, 3, 0, 7, 0, 0⟩],
      let s := onPins p State.reset
      s.pins.rst = false ∧ s.fault = false ∧
        ((s.pins.cmd = 2#2 ∧ s.pins.wsel = 7#3) ∨
          (s.pins.cmd = 3#2 ∧ (s.pins.wsel = 3#3 ∨ s.pins.wsel = 5#3 ∨ s.pins.wsel = 6#3 ∨ s.pins.wsel = 7#3))) := by decide

/-- StrictStepFaultsExactlyOnIllegalCommands: commands of each cause and legal ones at the edge of the selectors' ranges. -/
theorem witness_causes :
    illegalCause ⟨false, 1, 0x1D07, 0, 0, 0⟩ = some 1#2 ∧ illegalCause ⟨false, 2, 0, 7, 0, 0⟩ = some 2#2 ∧
    illegalCause ⟨false, 1, 0x1D06, 0, 0, 0⟩ = none ∧ illegalCause ⟨false, 2, 0, 6, 0, 0⟩ = none ∧
    illegalCause ⟨false, 3, 0, 4, 0, 0⟩ = none := by decide

/-- StrictStepFaultsExactlyOnIllegalCommands: a state that strictStep answers. -/
theorem witness_strict_step_answers : (match strictStep State.reset with | .next t => !t.fault | _ => false) = true := by decide

/-- Wr8WritesOneRegister and Wr16WritesOnePair: all hypotheses together, for the last register and for each pair. -/
theorem witness_legal_selectors :
    (let s := onPins ⟨false, 2, 0, 6, 0xFFFF, 0⟩ State.reset
     s.pins.rst = false ∧ s.fault = false ∧ s.pins.cmd = 2#2 ∧ s.pins.wsel = Reg.l.code) ∧
    (∀ w ∈ [0#3, 1#3, 2#3, 4#3], let s := onPins ⟨false, 3, 0, w, 0xFFFF, 0⟩ State.reset
     s.pins.rst = false ∧ s.fault = false ∧ s.pins.cmd = 3#2 ∧ s.pins.wsel = w) := by decide

/-- IdleChangesNothing: also in a faulted state. -/
theorem witness_idle : State.reset.pins.rst = false ∧ State.reset.pins.cmd = 0#2 := by decide

/-- FaultedBlockIsFrozenUntilReset: a faulted state and two commands without reset. -/
theorem witness_faulted_run :
    (raiseIllegal .illegalDescriptor State.reset).fault = true ∧
    (∀ p ∈ [(⟨false, 1, 0x0000, 0, 0, 0⟩ : Pins), ⟨false, 2, 0, 1, 0x55, 0⟩], p.rst = false) := by decide

/-- ResetClearsEverythingFromAnyState, RunFromResetForgetsTheStateBefore: a run of reset edges with commands on the port. -/
theorem witness_reset_run :
    [(⟨true, 1, 0x0007, 0, 0, 0⟩ : Pins), ⟨true, 2, 0, 7, 0, 0⟩] ≠ [] ∧
    (∀ p ∈ [(⟨true, 1, 0x0007, 0, 0, 0⟩ : Pins), ⟨true, 2, 0, 7, 0, 0⟩], p.rst = true) := by decide

/-- StepKeepsFaultAndCauseInAgreement: a running and a faulted state in agreement, and steps from them that answer. -/
theorem witness_fault_agreement :
    ((State.reset.fault = false ↔ State.reset.fcause = 0#2) ∧ State.reset.fcause ≠ 3#2) ∧
    (let s := raiseIllegal .illegalWriteSelector State.reset
     (s.fault = false ↔ s.fcause = 0#2) ∧ s.fcause ≠ 3#2 ∧ (blockAfter (step s)).isSome = true) := by decide

/-- ResultsDependOnlyOnFlagsRead: DAA from two flag states that agree where it reads and differ in z. -/
theorem witness_flags_agree_where_read :
    Instr.wellFormed .daa = true ∧ Flags.agreeOn (readFlags .daa) (Flags.fromByte 0x70) (Flags.fromByte 0xF0) ∧
      Flags.fromByte 0x70 ≠ Flags.fromByte 0xF0 := by
  unfold Flags.agreeOn
  decide

/-- UnusedInputsHaveNoEffect: all hypotheses together, for each command, with every unused input different. -/
theorem witness_unused_inputs :
    ∀ x ∈ [((⟨false, 0, 0, 0, 0, 0⟩ : Pins), (⟨false, 0, 0xFFFF, 7, 0xFFFF, 0xFFFF⟩ : Pins)),
        (⟨false, 1, 0x0A02, 0, 0, 0⟩, ⟨false, 1, 0x0A02, 7, 0xFFFF, 0xFFFF⟩),
        (⟨false, 1, 0x0A03, 0, 0, 5⟩, ⟨false, 1, 0x0A03, 7, 0xFFFF, 5⟩),
        (⟨false, 2, 0, 2, 0x0003, 0⟩, ⟨false, 2, 0x1E00, 2, 0xAB03, 0xFFFF⟩),
        (⟨false, 3, 0, 4, 0x12FF, 0⟩, ⟨false, 3, 0x1E00, 4, 0x12FF, 0xFFFF⟩)],
      let s := onPins x.1 State.reset
      let p := x.2
      p ≠ s.pins ∧ p.rst = s.pins.rst ∧ p.cmd = s.pins.cmd ∧ (s.pins.cmd = 1#2 → p.desc = s.pins.desc) ∧
        (s.pins.cmd = 2#2 ∨ s.pins.cmd = 3#2 → p.wsel = s.pins.wsel) ∧
        (s.pins.cmd = 2#2 → p.wdata.toNat % 256 = s.pins.wdata.toNat % 256) ∧
        (s.pins.cmd = 3#2 → p.wdata = s.pins.wdata) ∧
        (s.pins.cmd = 1#2 → s.pins.desc = 0x0A03#16 → p.spIn = s.pins.spIn) := by decide

/-- IdleCyclesMayBeInsertedAnywhere: an IDLE tuple with every other input set. -/
theorem witness_idle_tuple : (⟨false, 0, 0xFFFF, 7, 0xFFFF, 0xFFFF⟩ : Pins).rst = false ∧ (⟨false, 0, 0xFFFF, 7, 0xFFFF, 0xFFFF⟩ : Pins).cmd = 0#2 := by decide

/-- PairViewReadAfterWrite: two different views. -/
theorem witness_two_views : View.bc ≠ View.af := by decide

end Sys2Proof.Tests
end

section
/-! PROOFS of the family 10_state.md: what an operation writes and reads (R22, R30), the pair views (R25, R26) and the packed
flags (R27, R28). -/

namespace Sys2Proof.Machine

/-! ### The packed flags -/

/-- 10_state.md R27's table of the packed byte, from bit 0 up. -/
theorem getElem_toByte (f : Flags) (i : Fin 8) :
    f.toByte[i] = [false, false, false, false, f.c, f.h, f.n, f.z][i] := by
  obtain ⟨z, n, h, c⟩ := f
  revert z n h c i
  decide

theorem toNat_toByte (f : Flags) :
    f.toByte.toNat = f.z.toNat * 128 + f.n.toNat * 64 + f.h.toNat * 32 + f.c.toNat * 16 := by
  have hz := f.z.toNat_le
  have hn := f.n.toNat_le
  have hh := f.h.toNat_le
  have hc := f.c.toNat_le
  exact Nat.mod_eq_of_lt (by omega)

@[simp] theorem fromByte_toByte (f : Flags) : Flags.fromByte f.toByte = f := by
  have hz := getElem_toByte f 7
  have hn := getElem_toByte f 6
  have hh := getElem_toByte f 5
  have hc := getElem_toByte f 4
  simp_all [Flags.fromByte]

@[simp] theorem toByte_fromByte (v : Byte) : (Flags.fromByte v).toByte = v &&& 0xF0#8 := by
  ext i hi
  have hbit := getElem_toByte (Flags.fromByte v) ⟨i, hi⟩
  interval_cases i <;> simpa [Flags.fromByte] using hbit

theorem toByte_and_lowNibble (f : Flags) : f.toByte &&& 0x0F#8 = 0x00#8 := by
  calc f.toByte &&& 0x0F#8 = (f.toByte &&& 0xF0#8) &&& 0x0F#8 := by
        rw [← toByte_fromByte, fromByte_toByte]
    _ = 0x00#8 := by rw [BitVec.and_assoc]; exact BitVec.and_zero

/-! ### The pair views -/

theorem toNat_append_byte (hi lo : Byte) : (hi ++ lo).toNat = hi.toNat * 256 + lo.toNat := by
  rw [BitVec.toNat_append, ← Nat.shiftLeft_add_eq_or_of_lt lo.isLt, Nat.shiftLeft_eq]

@[simp] theorem hiByte_append_loByte (w : Word) : hiByte w ++ loByte w = w :=
  BitVec.extractLsb'_append_extractLsb'

theorem hiByte_append_loByte_and (w : Word) : hiByte w ++ (loByte w &&& 0xF0#8) = w &&& 0xFFF0#16 := by
  calc hiByte w ++ (loByte w &&& 0xF0#8) = (hiByte w &&& 0xFF#8) ++ (loByte w &&& 0xF0#8) := by
        rw [show (0xFF#8) = BitVec.allOnes 8 from rfl, BitVec.and_allOnes]
    _ = (hiByte w ++ loByte w) &&& (0xFF#8 ++ 0xF0#8) := BitVec.and_append.symm
    _ = w &&& 0xFFF0#16 := by rw [hiByte_append_loByte]; rfl

theorem read16_write16_same (s : State) (p : View) (w : Word) :
    (s.write16 p w).read16 p = if p = .af then w &&& 0xFFF0#16 else w := by
  cases p with
  | bc | de | hl => exact hiByte_append_loByte w
  | af =>
    calc (s.write16 .af w).read16 .af = hiByte w ++ (Flags.fromByte (loByte w)).toByte := rfl
      _ = w &&& 0xFFF0#16 := by rw [toByte_fromByte, hiByte_append_loByte_and]

theorem read16_write16_of_ne (s : State) (p q : View) (w : Word) (hqp : q ≠ p) :
    (s.write16 p w).read16 q = s.read16 q := by
  cases p <;> cases q <;> simp_all [State.read16]

/-! ### The frame of an operation -/

/-- The outcome is a next state in which only the registers `regs` and the flags outside `kept` may differ from `s`. -/
def CompletesWithin (regs : List Reg) (kept : Flags) (s : State) (o : Host.Outcome State Fault Refusal) : Prop :=
  ∃ t, o = .next t ∧ (∀ r, r ∉ regs → t.read8 r = s.read8 r) ∧ kept.agreeOn s.f t.f ∧ SameOutsideRegs s t

theorem writeBoth_completesWithin {r : Reg} {res : Byte} {f kept : Flags} {s : State} (hkept : kept.agreeOn s.f f) :
    CompletesWithin [r] kept s (writeBoth r res f s) := by
  obtain ⟨-, -, hregs, houtside⟩ := writeBoth_next (rfl : writeBoth r res f s = .next _)
  exact ⟨_, rfl, fun q hq => hregs q (by simpa using hq), hkept, houtside⟩

theorem writeFlags_completesWithin {f kept : Flags} {s : State} (hkept : kept.agreeOn s.f f) :
    CompletesWithin [] kept s (writeFlags f s) := by
  obtain ⟨-, hregs, houtside⟩ := writeFlags_next (rfl : writeFlags f s = .next _)
  exact ⟨_, rfl, fun q _ => hregs q, hkept, houtside⟩

theorem writeReg_completesWithin {r : Reg} {res : Byte} {kept : Flags} {s : State} :
    CompletesWithin [r] kept s (writeReg r res s) := by
  obtain ⟨-, -, hregs, houtside⟩ := writeReg_next (rfl : writeReg r res s = .next _)
  exact ⟨_, rfl, fun q hq => hregs q (by simpa using hq), by simp [Flags.agreeOn], houtside⟩

theorem read8_write16_hl {s : State} {w : Word} {q : Reg} (hq : q ∉ [Reg.h, Reg.l]) :
    (s.write16 .hl w).read8 q = s.read8 q := by
  cases q <;> simp_all

theorem pairOperand_of_addhlOperand {p : Pair} (s : State) (hp : p.addhlOperand = true) :
    ∃ v, pairOperand s p = some v := by
  cases p with
  | bc | de | hl | sp => exact ⟨_, rfl⟩
  | af => cases hp

/-- 41_addhl.md R121: the next state, once the operand is known. -/
theorem execAddhl_of_pairOperand {p : Pair} {s : State} {v : Word} (hv : pairOperand s p = some v) :
    execAddhl p s =
      .next ((s.write16 .hl (addWord (s.read16 .hl) v)).setFlags (addWordFlags (s.read16 .hl) v)) := by
  simp [execAddhl, hv]

theorem execAddhl_completesWithin {p : Pair} {s : State} {kept : Flags} (hp : p.addhlOperand = true)
    (hkept : ∀ new, kept.agreeOn s.f new) : CompletesWithin [.h, .l] kept s (execAddhl p s) := by
  obtain ⟨v, hv⟩ := pairOperand_of_addhlOperand s hp
  exact ⟨_, execAddhl_of_pairOperand hv, fun q hq => by rw [read8_setFlags, read8_write16_hl hq], hkept _,
    by simp [SameOutsideRegs]⟩

/-! ### Which flags are copied (R29, R30) -/

theorem agreeOn_none (old new : Flags) : Flags.agreeOn ⟨false, false, false, false⟩ old new := by
  simp [Flags.agreeOn]

theorem keepCarry_copies (old new : Flags) : Flags.agreeOn ⟨false, false, false, true⟩ old (keepCarry old new) := by
  simp [Flags.agreeOn, keepCarry]

theorem bitFlags_copies (v : Byte) (n : BitIndex) (old : Flags) :
    Flags.agreeOn ⟨false, false, false, true⟩ old (bitFlags v n old) := by
  simp [Flags.agreeOn, bitFlags]

theorem carryFlags_copies (old : Flags) (carry : Bool) :
    Flags.agreeOn ⟨true, false, false, false⟩ old (carryFlags old carry) := by
  simp [Flags.agreeOn, carryFlags]

theorem cplFlags_copies (old : Flags) : Flags.agreeOn ⟨true, false, false, true⟩ old (cplFlags old) := by
  simp [Flags.agreeOn, cplFlags]

theorem daaFlags_copies (a : Byte) (old : Flags) :
    Flags.agreeOn ⟨false, true, false, false⟩ old (daaFlags a old) := by
  simp [Flags.agreeOn, daaFlags]

theorem exec_completesWithin (i : Instr) (s : State) (hwf : i.wellFormed = true) :
    CompletesWithin (destRegs i) (keptFlags i) s (exec i s) := by
  cases i with
  | add | adc | sub | sbc | and | or | xor => exact writeBoth_completesWithin (agreeOn_none _ _)
  | rra | rla | rrca | rrla => exact writeBoth_completesWithin (agreeOn_none _ _)
  | srl | rr | rl | rrc | rlc | sra | sla | swap => exact writeBoth_completesWithin (agreeOn_none _ _)
  | cp => exact writeFlags_completesWithin (agreeOn_none _ _)
  | addhl => exact execAddhl_completesWithin hwf (agreeOn_none _)
  | inc | dec => exact writeBoth_completesWithin (keepCarry_copies _ _)
  | ccf | scf => exact writeFlags_completesWithin (carryFlags_copies _ _)
  | cpl => exact writeBoth_completesWithin (cplFlags_copies _)
  | daa => exact writeBoth_completesWithin (daaFlags_copies _ _)
  | bit => exact writeFlags_completesWithin (bitFlags_copies _ _ _)
  | resetBit | setBit => exact writeReg_completesWithin

/-! ### What an operation reads -/

/-- Both outcomes are next states, with the same registers and the same flags outside `kept`. -/
def SameResults (kept : Flags) (o o' : Host.Outcome State Fault Refusal) : Prop :=
  ∃ t u, o = .next t ∧ o' = .next u ∧ (∀ r, t.read8 r = u.read8 r) ∧ kept.agreeOff t.f u.f

theorem writeBoth_sameResults {r : Reg} {res res' : Byte} {f f' g kept : Flags} {s : State} (hres : res = res')
    (hf : kept.agreeOff f f') : SameResults kept (writeBoth r res f s) (writeBoth r res' f' (s.setFlags g)) :=
  ⟨_, _, rfl, rfl, fun q => by simp [hres, setFlags_write8], hf⟩

theorem writeFlags_sameResults {f f' g kept : Flags} {s : State} (hf : kept.agreeOff f f') :
    SameResults kept (writeFlags f s) (writeFlags f' (s.setFlags g)) :=
  ⟨_, _, rfl, rfl, fun q => by simp, hf⟩

theorem writeReg_sameResults {r : Reg} {res res' : Byte} {g : Flags} {s : State} (hres : res = res') :
    SameResults ⟨true, true, true, true⟩ (writeReg r res s) (writeReg r res' (s.setFlags g)) :=
  ⟨_, _, rfl, rfl, fun q => by simp [hres, setFlags_write8], by simp [Flags.agreeOff]⟩

theorem agreeOff_of_eq {mask f g : Flags} (h : f = g) : mask.agreeOff f g := by
  simp [Flags.agreeOff, h]

@[simp] theorem pairOperand_setFlags (s : State) (g : Flags) (p : Pair) :
    pairOperand (s.setFlags g) p = pairOperand s p := by
  cases p <;> rfl

theorem execAddhl_setFlags {p : Pair} {s : State} (g : Flags) (hp : p.addhlOperand = true) :
    execAddhl p (s.setFlags g) = execAddhl p s := by
  obtain ⟨v, hv⟩ := pairOperand_of_addhlOperand s hp
  have hv' : pairOperand (s.setFlags g) p = some v := by rw [pairOperand_setFlags, hv]
  rw [execAddhl_of_pairOperand hv, execAddhl_of_pairOperand hv']
  rfl

theorem keepCarry_ignores (f g new : Flags) :
    Flags.agreeOff ⟨false, false, false, true⟩ (keepCarry f new) (keepCarry g new) := by
  simp [Flags.agreeOff, keepCarry]

theorem bitFlags_ignores (v : Byte) (n : BitIndex) (f g : Flags) :
    Flags.agreeOff ⟨false, false, false, true⟩ (bitFlags v n f) (bitFlags v n g) := by
  simp [Flags.agreeOff, bitFlags]

theorem carryFlags_ignores (f g : Flags) (carry : Bool) :
    Flags.agreeOff ⟨true, false, false, false⟩ (carryFlags f carry) (carryFlags g carry) := by
  simp [Flags.agreeOff, carryFlags]

theorem cplFlags_ignores (f g : Flags) : Flags.agreeOff ⟨true, false, false, true⟩ (cplFlags f) (cplFlags g) := by
  simp [Flags.agreeOff, cplFlags]

/-- 44_flag_acc_ops.md R158: DAA's accumulator is computed from n, h and c. -/
theorem daaByte_congr {f g : Flags} (a : Byte) (hn : f.n = g.n) (hh : f.h = g.h) (hc : f.c = g.c) :
    daaByte a f = daaByte a g := by
  simp [daaByte, daaAdjust, hn, hh, hc]

theorem daaFlags_congr {f g : Flags} (a : Byte) (hn : f.n = g.n) (hh : f.h = g.h) (hc : f.c = g.c) :
    daaFlags a f = daaFlags a g := by
  simp [daaFlags, daaCarry, daaByte_congr a hn hh hc, hn, hc]

theorem exec_setFlags_sameResults (i : Instr) (s : State) (g : Flags) (hwf : i.wellFormed = true)
    (hread : (readFlags i).agreeOn s.f g) : SameResults (keptFlags i) (exec i s) (exec i (s.setFlags g)) := by
  obtain ⟨-, hn, hh, hc⟩ := hread
  cases i with
  | add | sub | and | or | xor => exact writeBoth_sameResults (by simp) (agreeOff_of_eq (by simp))
  | rrca | rrla => exact writeBoth_sameResults rfl (agreeOff_of_eq rfl)
  | srl | rrc | rlc | sra | sla | swap => exact writeBoth_sameResults (by simp) (agreeOff_of_eq (by simp))
  | adc | sbc | rra | rla | rr | rl =>
    exact writeBoth_sameResults (by simp [hc rfl]) (agreeOff_of_eq (by simp [hc rfl]))
  | cp => exact writeFlags_sameResults (agreeOff_of_eq (by simp))
  | addhl p =>
    obtain ⟨t, ht, -⟩ := exec_completesWithin (.addhl p) s hwf
    exact ⟨t, t, ht, (execAddhl_setFlags g hwf).trans ht, fun _ => rfl, agreeOff_of_eq rfl⟩
  | inc | dec => exact writeBoth_sameResults (by simp) (by rw [read8_setFlags]; exact keepCarry_ignores _ _ _)
  | ccf =>
    have hcarry : s.f.c = g.c := hc rfl
    exact writeFlags_sameResults (by rw [setFlags_f, ← hcarry]; exact carryFlags_ignores _ _ _)
  | scf => exact writeFlags_sameResults (carryFlags_ignores _ _ _)
  | cpl => exact writeBoth_sameResults rfl (cplFlags_ignores _ _)
  | daa =>
    exact writeBoth_sameResults (daaByte_congr _ (hn rfl) (hh rfl) (hc rfl))
      (agreeOff_of_eq (daaFlags_congr _ (hn rfl) (hh rfl) (hc rfl)))
  | bit => exact writeFlags_sameResults (by rw [read8_setFlags]; exact bitFlags_ignores _ _ _ _)
  | resetBit | setBit => exact writeReg_sameResults (by simp)

/-! ### The obligations -/

/-- Settles O53: every view is two bytes put together, the first above the second. -/
theorem pairViewsAreHighByteFirst : Obligations.PairViewsAreHighByteFirst := fun s =>
  ⟨toNat_append_byte s.b s.c, toNat_append_byte s.d s.e, toNat_append_byte s.h s.l, toNat_append_byte s.a s.f.toByte⟩

/-- Settles O54, from the two halves of a word and the flag byte's round trip. -/
theorem pairViewReadAfterWrite : Obligations.PairViewReadAfterWrite := fun s p w =>
  ⟨read16_write16_same s p w, fun q hqp => read16_write16_of_ne s p q w hqp, by simp [SameOutsideRegs]⟩

/-- Settles O55, from the packed byte's bits. -/
theorem flagByteRoundTrips : Obligations.FlagByteRoundTrips :=
  ⟨fun f => ⟨toNat_toByte f, toByte_and_lowNibble f, fromByte_toByte f⟩, fun v => ⟨rfl, toByte_fromByte v⟩⟩

/-- Settles O47, by the three ways in which an operation writes, and ADDHL's. -/
theorem everyOperationCompletesWithinItsFrame : Obligations.EveryOperationCompletesWithinItsFrame :=
  exec_completesWithin

/-- Settles O48, by the rows of the table of 10_state.md R30. -/
theorem resultsDependOnlyOnFlagsRead : Obligations.ResultsDependOnlyOnFlagsRead :=
  exec_setFlags_sameResults

end Sys2Proof.Machine

end


section
/-! PROOFS of the family 30_encoding.md: the layout of a word (R72), what the decoder accepts and answers (R76, R79, R82), and
how many words are legal (R79). -/

namespace Sys2Proof

/-! ### The layout and its fields -/

theorem toNat_append_eq_mul_add {m n : Nat} (x : BitVec m) (y : BitVec n) :
    (x ++ y).toNat = x.toNat * 2 ^ n + y.toNat := by
  rw [BitVec.toNat_append, ← Nat.shiftLeft_add_eq_or_of_lt y.isLt, Nat.shiftLeft_eq]

/-- 30_encoding.md R72: "As a number, desc = OPC * 256 + IDX * 16 + SEL". -/
theorem toNat_layout (opc : BitVec 8) (idx sel : BitVec 3) :
    (layout opc idx sel).toNat = opc.toNat * 256 + idx.toNat * 16 + sel.toNat := by
  simp only [layout, toNat_append_eq_mul_add, BitVec.toNat_ofNat]
  omega

theorem toNat_opcField (w : Word) : (opcField w).toNat = w.toNat / 256 := by
  have hw := w.isLt
  simp only [opcField, BitVec.extractLsb'_toNat, Nat.shiftRight_eq_div_pow]
  omega

theorem toNat_idxField (w : Word) : (idxField w).toNat = w.toNat / 16 % 8 := by
  simp [idxField, BitVec.extractLsb'_toNat, Nat.shiftRight_eq_div_pow]

theorem toNat_selField (w : Word) : (selField w).toNat = w.toNat % 8 := by
  simp [selField, BitVec.extractLsb'_toNat]

@[simp] theorem opcField_layout (opc : BitVec 8) (idx sel : BitVec 3) : opcField (layout opc idx sel) = opc := by
  apply BitVec.eq_of_toNat_eq
  rw [toNat_opcField, toNat_layout]
  omega

@[simp] theorem idxField_layout (opc : BitVec 8) (idx sel : BitVec 3) : idxField (layout opc idx sel) = idx := by
  apply BitVec.eq_of_toNat_eq
  rw [toNat_idxField, toNat_layout]
  omega

@[simp] theorem selField_layout (opc : BitVec 8) (idx sel : BitVec 3) : selField (layout opc idx sel) = sel := by
  apply BitVec.eq_of_toNat_eq
  rw [toNat_selField, toNat_layout]
  omega

/-- The bits of a word outside its three fields, desc[7] and desc[3], are 0 (R72). -/
def ReservedClear (w : Word) : Prop := (w.getLsbD 7 || w.getLsbD 3) = false

theorem reservedClear_iff_toNat (w : Word) : ReservedClear w ↔ w.toNat / 128 % 2 = 0 ∧ w.toNat / 8 % 2 = 0 := by
  simp [ReservedClear, BitVec.getLsbD, Nat.testBit_eq_decide_div_mod_eq]

theorem reservedClear_layout (opc : BitVec 8) (idx sel : BitVec 3) : ReservedClear (layout opc idx sel) := by
  obtain ⟨h7, h3⟩ := Laws.ReservedBitsClear.layout_reserved opc idx sel
  rw [ReservedClear, h7, h3, Bool.or_false]

theorem layout_fields {w : Word} (hw : ReservedClear w) : layout (opcField w) (idxField w) (selField w) = w := by
  obtain ⟨h7, h3⟩ := (reservedClear_iff_toNat w).mp hw
  apply BitVec.eq_of_toNat_eq
  rw [toNat_layout, toNat_opcField, toNat_idxField, toNat_selField]
  omega

/-! ### The selectors -/

theorem regOf_eq_some_iff (sel : BitVec 3) (r : Reg) : regOf sel = some r ↔ sel = r.code := by
  cases r <;> revert sel <;> decide

theorem pairOf_eq_some_iff (sel : BitVec 3) (p : Pair) : pairOf sel = some p ↔ sel = p.code := by
  cases p <;> revert sel <;> decide

/-- 30_encoding.md R74: the codes 0 to 6 name a register. -/
theorem exists_reg_code_iff (sel : BitVec 3) : (∃ r : Reg, sel = r.code) ↔ sel.toNat ≤ 6 := by
  simp only [← regOf_eq_some_iff, ← Option.isSome_iff_exists]
  revert sel
  decide

/-- 30_encoding.md R75: the codes 0 to 3 name a pair that ADDHL takes. -/
theorem exists_addhlOperand_code_iff (sel : BitVec 3) :
    (∃ p : Pair, sel = p.code ∧ p.addhlOperand = true) ↔ sel.toNat ≤ 3 := by
  simp only [← pairOf_eq_some_iff, ← Option.any_eq_true]
  revert sel
  decide

/-! ### What a word denotes -/

/-- What an opcode's entry and the two operand fields stand for (30_encoding.md R73, R78). -/
def Shape.Denotes (idx sel : BitVec 3) (i : Instr) : Shape → Prop
  | .formN j => idx = 0#3 ∧ sel = 0#3 ∧ j = i
  | .formR op => idx = 0#3 ∧ ∃ r : Reg, sel = r.code ∧ op r = i
  | .formP op => idx = 0#3 ∧ ∃ p : Pair, (sel = p.code ∧ p.addhlOperand = true) ∧ op p = i
  | .formB op => ∃ r : Reg, sel = r.code ∧ op r idx.toFin = i

/-- A test that rejects, passed: the decoder's answer is that of the rest. -/
theorem errorIf_eq_ok_iff {c : Prop} [Decidable c] {e : Illegal} {rest : Except Illegal Instr} {i : Instr} :
    (if c then .error e else rest) = .ok i ↔ ¬c ∧ rest = .ok i := by
  by_cases hc : c <;> simp [hc]

/-- All that the decoder can accept, and what it then answers (30_encoding.md R82). -/
theorem decode_eq_ok_iff (w : Word) (i : Instr) :
    decode w = .ok i ↔
      ReservedClear w ∧ ∃ sh, shapeOf (opcField w).toNat = some sh ∧ sh.Denotes (idxField w) (selField w) i := by
  rw [decode, errorIf_eq_ok_iff, Bool.not_eq_true, ReservedClear]
  refine and_congr_right fun _ => ?_
  cases shapeOf (opcField w).toNat with
  | none => simp
  | some sh =>
    simp only [Option.some.injEq, exists_eq_left']
    cases sh with
    | formN j => simp only [errorIf_eq_ok_iff, Shape.Denotes, ne_eq, not_not, Except.ok.injEq]
    | formR op =>
      simp only [errorIf_eq_ok_iff, Shape.Denotes, ← regOf_eq_some_iff, ne_eq, not_not]
      cases regOf (selField w) <;> simp
    | formP op =>
      simp only [errorIf_eq_ok_iff, Shape.Denotes, ← pairOf_eq_some_iff, ne_eq, not_not]
      cases pairOf (selField w) <;> simp [ite_eq_iff]
    | formB op =>
      simp only [Shape.Denotes, ← regOf_eq_some_iff]
      cases regOf (selField w) <;> simp

/-! ### The opcode map -/

/-- What the encoder makes of the operations of an opcode's entry, and which of them are well formed. -/
def Shape.EncodesAs (opc : BitVec 8) : Shape → Prop
  | .formN i => i.wellFormed = true ∧ encode i = layout opc 0#3 0#3
  | .formR op => ∀ r : Reg, (op r).wellFormed = true ∧ encode (op r) = layout opc 0#3 r.code
  | .formP op => ∀ p : Pair, (op p).wellFormed = p.addhlOperand ∧ encode (op p) = layout opc 0#3 p.code
  | .formB op => ∀ (r : Reg) (n : BitIndex), (op r n).wellFormed = true ∧ encode (op r n) = layout opc ⟨n⟩ r.code

/-- 30_encoding.md R76: the decoder's map and the encoder's patterns give each operation the same opcode. -/
theorem encodesAs_of_shapeOf {opc : BitVec 8} {sh : Shape} (h : shapeOf opc.toNat = some sh) : sh.EncodesAs opc := by
  obtain ⟨n, hn⟩ : ∃ n, opc.toNat = n := ⟨_, rfl⟩
  obtain rfl : opc = BitVec.ofNat 8 n := by simp [← hn]
  rw [hn] at h
  unfold shapeOf at h
  split at h <;> cases h
  all_goals simp [Shape.EncodesAs, Instr.wellFormed, encode]

theorem encode_of_denotes {opc : BitVec 8} {idx sel : BitVec 3} {sh : Shape} {i : Instr}
    (hsh : shapeOf opc.toNat = some sh) (hi : sh.Denotes idx sel i) :
    i.wellFormed = true ∧ encode i = layout opc idx sel := by
  have henc := encodesAs_of_shapeOf hsh
  cases sh with
  | formN j =>
    obtain ⟨rfl, rfl, rfl⟩ := hi
    exact henc
  | formR op =>
    obtain ⟨rfl, r, rfl, rfl⟩ := hi
    exact henc r
  | formP op =>
    obtain ⟨rfl, p, ⟨rfl, hp⟩, rfl⟩ := hi
    obtain ⟨hwf, hword⟩ := henc p
    exact ⟨hwf.trans hp, hword⟩
  | formB op =>
    obtain ⟨r, rfl, rfl⟩ := hi
    exact henc r idx.toFin

/-- The word is that of an opcode and operand fields that stand for the operation. -/
def DenotedByWord (i : Instr) : Prop :=
  ∃ opc idx sel sh, encode i = layout opc idx sel ∧ shapeOf opc.toNat = some sh ∧ sh.Denotes idx sel i

theorem denotedByWord_of_wellFormed (i : Instr) (hwf : i.wellFormed = true) : DenotedByWord i := by
  cases i with
  | ccf | scf | rra | rla | rrca | rrla | cpl | daa => exact ⟨_, _, _, _, rfl, rfl, rfl, rfl, rfl⟩
  | add r | adc r | sub r | sbc r | and r | or r | xor r | cp r | inc r | dec r =>
    exact ⟨_, _, _, _, rfl, rfl, rfl, r, rfl, rfl⟩
  | srl r | rr r | rl r | rrc r | rlc r | sra r | sla r | swap r => exact ⟨_, _, _, _, rfl, rfl, rfl, r, rfl, rfl⟩
  | addhl p => exact ⟨_, _, _, _, rfl, rfl, rfl, p, ⟨rfl, hwf⟩, rfl⟩
  | bit r | resetBit r | setBit r => exact ⟨_, _, _, _, rfl, rfl, r, rfl, rfl⟩

/-- 30_encoding.md R79: decoding is a bijection between the words it accepts and the well-formed operations. -/
theorem decode_eq_ok_iff_encode (w : Word) (i : Instr) :
    decode w = .ok i ↔ i.wellFormed = true ∧ encode i = w := by
  rw [decode_eq_ok_iff]
  constructor
  · rintro ⟨hw, sh, hsh, hi⟩
    obtain ⟨hwf, hword⟩ := encode_of_denotes hsh hi
    exact ⟨hwf, hword.trans (layout_fields hw)⟩
  · rintro ⟨hwf, rfl⟩
    obtain ⟨opc, idx, sel, sh, hword, hsh, hi⟩ := denotedByWord_of_wellFormed i hwf
    rw [hword]
    exact ⟨reservedClear_layout opc idx sel, sh, by simpa using hsh, by simpa using hi⟩

end Sys2Proof

namespace Sys2Proof.Machine

/-! ### Which words are legal -/

/-- The operand fields that are legal in an operand form (30_encoding.md R79). -/
def Form.accepts (f : Form) (idx sel : BitVec 3) : Bool :=
  match f with
  | .n => idx == 0#3 && sel == 0#3
  | .r => idx == 0#3 && decide (sel.toNat ≤ 6)
  | .p => idx == 0#3 && decide (sel.toNat ≤ 3)
  | .b => decide (sel.toNat ≤ 6)

/-- The operand form of an opcode's entry (30_encoding.md R73). -/
def shapeForm : Shape → Form
  | .formN _ => .n
  | .formR _ => .r
  | .formP _ => .p
  | .formB _ => .b

/-- 30_encoding.md R76: the opcodes up to 0x1D, with their forms. -/
theorem shapeOf_map_form (opc : Nat) : (shapeOf opc).map shapeForm = if opc ≤ 0x1D then some (formOf opc) else none := by
  split
  · interval_cases opc <;> rfl
  · obtain ⟨k, rfl⟩ : ∃ k, opc = k + 30 := ⟨opc - 30, by omega⟩
    simp [shapeOf]

theorem exists_denotes_iff (idx sel : BitVec 3) (sh : Shape) :
    (∃ i, sh.Denotes idx sel i) ↔ (shapeForm sh).accepts idx sel = true := by
  cases sh with
  | formN j => simp [Shape.Denotes, shapeForm, Form.accepts]
  | formR op => simp [Shape.Denotes, shapeForm, Form.accepts, ← exists_reg_code_iff]
  | formP op => simp [Shape.Denotes, shapeForm, Form.accepts, ← exists_addhlOperand_code_iff]
  | formB op => simp [Shape.Denotes, shapeForm, Form.accepts, ← exists_reg_code_iff]

/-- The fields of a word are those of a legal one (30_encoding.md R79). -/
def LegalFields (opc : BitVec 8) (idx sel : BitVec 3) : Prop :=
  opc.toNat ≤ 0x1D ∧ (formOf opc.toNat).accepts idx sel = true

theorem exists_shapeOf_denotes_iff (opc : BitVec 8) (idx sel : BitVec 3) :
    (∃ sh, shapeOf opc.toNat = some sh ∧ ∃ i, sh.Denotes idx sel i) ↔ LegalFields opc idx sel := by
  simp only [exists_denotes_iff, LegalFields]
  have hform := shapeOf_map_form opc.toNat
  by_cases hopc : opc.toNat ≤ 0x1D
  · obtain ⟨sh, hsh, hf⟩ : ∃ sh, shapeOf opc.toNat = some sh ∧ shapeForm sh = formOf opc.toNat := by
      simpa [hopc] using hform
    simp [hsh, hf, hopc]
  · have hnone : shapeOf opc.toNat = none := by simpa [hopc] using hform
    simp [hnone, hopc]

/-- 30_encoding.md R79, R80: which words the decoder accepts. -/
theorem exists_decode_iff (w : Word) :
    (∃ i, decode w = .ok i) ↔ ReservedClear w ∧ LegalFields (opcField w) (idxField w) (selField w) := by
  simp only [decode_eq_ok_iff, exists_and_left, ← exists_shapeOf_denotes_iff]
  rw [exists_comm]
  simp only [exists_and_left]

/-- 30_encoding.md R79: `legal` on the number is a condition on the fields. -/
theorem legal_iff (w : Word) :
    legal w = true ↔ ReservedClear w ∧ LegalFields (opcField w) (idxField w) (selField w) := by
  have hidx : idxField w = 0#3 ↔ w.toNat / 16 % 8 = 0 := by rw [← toNat_idxField, ← BitVec.toNat_inj]; rfl
  have hsel : selField w = 0#3 ↔ w.toNat % 8 = 0 := by rw [← toNat_selField, ← BitVec.toNat_inj]; rfl
  rw [reservedClear_iff_toNat, legal, decide_eq_true_iff, LegalFields, toNat_opcField]
  cases formOf (w.toNat / 256) <;> simp [Form.accepts, hidx, hsel, toNat_selField, and_assoc]

/-! ### How many words are legal -/

/-- The eight values of a three-bit field. -/
def codes : List (BitVec 3) := (List.finRange 8).map BitVec.ofFin

theorem mem_codes (code : BitVec 3) : code ∈ codes := by
  revert code
  decide

theorem nodup_codes : codes.Nodup := by decide

/-- The pairs of operand fields, IDX and SEL, that are legal in a form. -/
def Form.operandFields (f : Form) : List (BitVec 3 × BitVec 3) := (codes ×ˢ codes).filter fun x => f.accepts x.1 x.2

theorem mem_operandFields (f : Form) (x : BitVec 3 × BitVec 3) : x ∈ f.operandFields ↔ f.accepts x.1 x.2 = true := by
  obtain ⟨idx, sel⟩ := x
  simp [Form.operandFields, mem_codes]

theorem nodup_operandFields (f : Form) : f.operandFields.Nodup := (nodup_codes.product nodup_codes).filter _

/-- 30_encoding.md R79: one word for an operation with no operand, seven for a register, four for ADDHL, and eight times seven for a
register with a bit index. -/
theorem length_operandFields (f : Form) :
    f.operandFields.length = match f with | .n => 1 | .r => 7 | .p => 4 | .b => 8 * 7 := by
  cases f <;> decide

/-- The opcodes of the 30 operations (30_encoding.md R76). -/
def opcodes : List (BitVec 8) := (List.range Config.operations).map (BitVec.ofNat 8)

theorem mem_opcodes (opc : BitVec 8) : opc ∈ opcodes ↔ opc.toNat ≤ 0x1D := by
  revert opc
  decide

theorem nodup_opcodes : opcodes.Nodup := by decide

/-- The words of the 30 opcodes with the operand fields of their forms. -/
def legalWordList : List Word :=
  (opcodes.sigma fun opc => (formOf opc.toNat).operandFields).map fun x => layout x.1 x.2.1 x.2.2

theorem layout_injective : Function.Injective fun x : (_ : BitVec 8) × BitVec 3 × BitVec 3 => layout x.1 x.2.1 x.2.2 := by
  rintro ⟨opc, idx, sel⟩ ⟨opc', idx', sel'⟩ h
  obtain rfl : opc = opc' := by simpa using congrArg opcField h
  obtain rfl : idx = idx' := by simpa using congrArg idxField h
  obtain rfl : sel = sel' := by simpa using congrArg selField h
  rfl

theorem nodup_legalWordList : legalWordList.Nodup :=
  (nodup_opcodes.sigma fun _ => nodup_operandFields _).map layout_injective

theorem length_legalWordList : legalWordList.length = Config.legalWords := by
  simp only [legalWordList, List.length_map, List.length_sigma, length_operandFields]
  decide

theorem mem_legalWordList (w : Word) :
    w ∈ legalWordList ↔ ReservedClear w ∧ LegalFields (opcField w) (idxField w) (selField w) := by
  simp only [legalWordList, List.mem_map, Sigma.exists, List.mem_sigma, mem_opcodes, mem_operandFields]
  constructor
  · rintro ⟨opc, ⟨idx, sel⟩, hlegal, rfl⟩
    exact ⟨reservedClear_layout opc idx sel, by simpa [LegalFields] using hlegal⟩
  · rintro ⟨hw, hlegal⟩
    exact ⟨opcField w, (idxField w, selField w), hlegal, layout_fields hw⟩

/-! ### The obligations -/

/-- Settles O28, the encoder's half of R79's bijection. -/
theorem decodeOfEncodeIsTheOperation : Obligations.DecodeOfEncodeIsTheOperation := fun i hwf =>
  (decode_eq_ok_iff_encode (encode i) i).mpr ⟨hwf, rfl⟩

/-- Settles O29, the decoder's half of R79's bijection. -/
theorem encodeOfDecodeIsTheWord : Obligations.EncodeOfDecodeIsTheWord := fun w i =>
  (decode_eq_ok_iff_encode w i).mp

/-- Settles O30: the decoder and R79's `legal` put the same condition on the fields. -/
theorem decoderAcceptsExactlyLegalWords : Obligations.DecoderAcceptsExactlyLegalWords := fun w =>
  (exists_decode_iff w).trans (legal_iff w).symm

/-- Settles O31, by R79's count over the opcodes: 8 * 1 + 18 * 7 + 1 * 4 + 3 * 8 * 7. -/
theorem thereAre306LegalWords : Obligations.ThereAre306LegalWords :=
  ⟨legalWordList, nodup_legalWordList, length_legalWordList,
    fun w => (exists_decode_iff w).trans (mem_legalWordList w).symm⟩

/-- Settles O32: the decoder evaluated on each of the words. -/
theorem sampleWordsDecode : Obligations.SampleWordsDecode :=
  ⟨rfl, rfl, rfl, rfl, rfl, rfl, rfl, rfl, rfl, rfl, rfl, rfl, rfl, rfl, rfl, rfl, rfl⟩

end Sys2Proof.Machine

end

section
/-! PROOFS of the family 40_add_sub.md: the words, results and flags of ADD, ADC, SUB and CP (R101 to R103, R105), and the laws
of R106 by sums one bit wider than the operands. -/

namespace Sys2Proof.Machine

/-! ### The word of an operation, as a number -/

/-- 30_encoding.md R72: the number of the word and its layout agree. -/
theorem descWord_toNat (opc : BitVec 8) (idx sel : BitVec 3) :
    descWord opc.toNat idx.toNat sel.toNat = layout opc idx sel := by
  rw [descWord, ← toNat_layout, BitVec.ofNat_toNat, BitVec.setWidth_eq]

theorem decode_descWord {i : Instr} (opc : BitVec 8) (idx sel : BitVec 3) (hwf : i.wellFormed = true)
    (hword : encode i = layout opc idx sel) : decode (descWord opc.toNat idx.toNat sel.toNat) = .ok i :=
  (decode_eq_ok_iff_encode _ i).mpr ⟨hwf, by rw [descWord_toNat, hword]⟩

/-! ### The next state of each operation -/

theorem exec_add (r : Reg) (s : State) : exec (.add r) s =
    .next ((s.write8 .a (addByte s.a (s.read8 r) false)).setFlags (addFlags s.a (s.read8 r) false)) := rfl

theorem exec_adc (r : Reg) (s : State) : exec (.adc r) s =
    .next ((s.write8 .a (addByte s.a (s.read8 r) s.f.c)).setFlags (addFlags s.a (s.read8 r) s.f.c)) := rfl

theorem exec_sub (r : Reg) (s : State) : exec (.sub r) s =
    .next ((s.write8 .a (subByte s.a (s.read8 r) false)).setFlags (subFlags s.a (s.read8 r) false)) := rfl

theorem exec_sbc (r : Reg) (s : State) : exec (.sbc r) s =
    .next ((s.write8 .a (subByte s.a (s.read8 r) s.f.c)).setFlags (subFlags s.a (s.read8 r) s.f.c)) := rfl

theorem exec_cp (r : Reg) (s : State) :
    exec (.cp r) s = .next (s.setFlags (subFlags s.a (s.read8 r) false)) := rfl

theorem execList_cons {i : Instr} {s t : State} (h : exec i s = .next t) (rest : List Instr) :
    execList (i :: rest) s = execList rest t := by
  rw [execList, h]

/-! ### Results and flags as integers -/

theorem toNat_addByte (a v : Byte) (cin : Bool) :
    (addByte a v cin).toNat = (a.toNat + v.toNat + cin.toNat) % 256 := BitVec.toNat_ofNat _ _

/-- 40_add_sub.md R103, R104: the difference plus 256, which is never negative. -/
theorem toNat_subByte (a v : Byte) (bin : Bool) :
    (subByte a v bin).toNat = (256 + a.toNat - (v.toNat + bin.toNat)) % 256 := by
  have hbin := bin.toNat_le
  have hv := v.isLt
  rw [subByte, BitVec.toNat_ofInt]
  omega

theorem addByte_eq_ofNat (a v : Byte) (cin : Bool) :
    addByte a v cin = BitVec.ofNat 8 ((a.toNat + v.toNat + cin.toNat) % 256) := by
  rw [← toNat_addByte, BitVec.ofNat_toNat, BitVec.setWidth_eq]

theorem subByte_eq_ofNat (a v : Byte) (bin : Bool) :
    subByte a v bin = BitVec.ofNat 8 ((256 + a.toNat - (v.toNat + bin.toNat)) % 256) := by
  rw [← toNat_subByte, BitVec.ofNat_toNat, BitVec.setWidth_eq]

theorem addByte_eq_zero_iff (a v : Byte) (cin : Bool) :
    addByte a v cin = 0#8 ↔ (a.toNat + v.toNat + cin.toNat) % 256 = 0 := by
  rw [← toNat_addByte, ← BitVec.toNat_inj, BitVec.toNat_ofNat, Nat.zero_mod]

theorem subByte_eq_zero_iff (a v : Byte) (bin : Bool) :
    subByte a v bin = 0#8 ↔ (256 + a.toNat - (v.toNat + bin.toNat)) % 256 = 0 := by
  rw [← toNat_subByte, ← BitVec.toNat_inj, BitVec.toNat_ofNat, Nat.zero_mod]

theorem addFlags_eq (a v : Byte) (cin : Bool) :
    addFlags a v cin =
      ⟨decide ((a.toNat + v.toNat + cin.toNat) % 256 = 0), false,
        decide (a.toNat % 16 + v.toNat % 16 + cin.toNat > 0xF), decide (a.toNat + v.toNat + cin.toNat > 255)⟩ := by
  rw [addFlags, decide_eq_decide.mpr (addByte_eq_zero_iff a v cin)]
  rfl

theorem subFlags_eq (a v : Byte) (bin : Bool) :
    subFlags a v bin =
      ⟨decide ((256 + a.toNat - (v.toNat + bin.toNat)) % 256 = 0), true,
        decide (a.toNat % 16 < v.toNat % 16 + bin.toNat), decide (a.toNat < v.toNat + bin.toNat)⟩ := by
  rw [subFlags, decide_eq_decide.mpr (subByte_eq_zero_iff a v bin)]
  rfl

/-- 40_add_sub.md R105: without a borrow-in the difference is 0 exactly for equal bytes. -/
theorem subByte_false_eq_zero_iff (a v : Byte) : subByte a v false = 0#8 ↔ a.toNat = v.toNat := by
  have ha := a.isLt
  have hv := v.isLt
  rw [subByte_eq_zero_iff, Bool.toNat_false]
  omega

theorem addByte_subByte (a v : Byte) : addByte (subByte a v false) v false = a := by
  have ha := a.isLt
  have hv := v.isLt
  apply BitVec.eq_of_toNat_eq
  rw [toNat_addByte, toNat_subByte, Bool.toNat_false]
  omega

/-! ### Sums one bit wider than the operands (R106) -/

/-- The sum with a carry-in, wide enough to hold its carry-out as the top bit. -/
def wideSum {w : Nat} (x y : BitVec w) (k : Bool) : BitVec (w + 1) :=
  x.setWidth (w + 1) + y.setWidth (w + 1) + BitVec.ofNat (w + 1) k.toNat

theorem toNat_wideSum {w : Nat} (x y : BitVec w) (k : Bool) :
    (wideSum x y k).toNat = x.toNat + y.toNat + k.toNat := by
  have hx := x.isLt
  have hy := y.isLt
  have hk := k.toNat_le
  have hfits : x.toNat + y.toNat + k.toNat < 2 ^ (w + 1) := by omega
  simp only [wideSum, BitVec.toNat_add, BitVec.toNat_setWidth, BitVec.toNat_ofNat, Nat.mod_add_mod, Nat.add_mod_mod]
  exact Nat.mod_eq_of_lt hfits

theorem getLsbD_wideSum {w : Nat} (x y : BitVec w) (k : Bool) :
    (wideSum x y k).getLsbD w = decide (x.toNat + y.toNat + k.toNat ≥ 2 ^ w) := by
  rw [← toNat_wideSum]
  exact BitVec.getLsbD_last (wideSum x y k)

theorem toNat_not_add (k : Bool) : (!k).toNat + k.toNat = 1 := by
  cases k <;> rfl

/-- A sum with the complements has no carry-out exactly when the subtraction borrows. -/
theorem not_getLsbD_wideSum_not {w : Nat} (x y : BitVec w) (k : Bool) :
    (!(wideSum x (~~~y) (!k)).getLsbD w) = decide (x.toNat < y.toNat + k.toNat) := by
  have hk := toNat_not_add k
  have hy := y.isLt
  rw [getLsbD_wideSum, BitVec.toNat_not, ← decide_not, decide_eq_decide]
  omega

theorem lowNibble_eq_toNat (v : Byte) : lowNibble v = (v.setWidth 4).toNat := (BitVec.toNat_setWidth 4 v).symm

theorem addByte_eq_setWidth_wideSum (a v : Byte) (k : Bool) : addByte a v k = (wideSum a v k).setWidth 8 := by
  apply BitVec.eq_of_toNat_eq
  rw [toNat_addByte, BitVec.toNat_setWidth, toNat_wideSum]

theorem subByte_eq_setWidth_wideSum (a v : Byte) (k : Bool) :
    subByte a v k = (wideSum a (~~~v) (!k)).setWidth 8 := by
  have hk := toNat_not_add k
  have hv := v.isLt
  apply BitVec.eq_of_toNat_eq
  rw [toNat_subByte, BitVec.toNat_setWidth, toNat_wideSum, BitVec.toNat_not]
  omega

theorem addFlags_c (a v : Byte) (k : Bool) : (addFlags a v k).c = (wideSum a v k).getLsbD 8 :=
  (getLsbD_wideSum a v k).symm

theorem addFlags_h (a v : Byte) (k : Bool) :
    (addFlags a v k).h = (wideSum (a.setWidth 4) (v.setWidth 4) k).getLsbD 4 := by
  rw [getLsbD_wideSum, addFlags, lowNibble_eq_toNat, lowNibble_eq_toNat]
  rfl

theorem subFlags_c (a v : Byte) (k : Bool) : (subFlags a v k).c = !(wideSum a (~~~v) (!k)).getLsbD 8 :=
  (not_getLsbD_wideSum_not a v k).symm

theorem subFlags_h (a v : Byte) (k : Bool) :
    (subFlags a v k).h = !(wideSum (a.setWidth 4) (~~~(v.setWidth 4)) (!k)).getLsbD 4 := by
  rw [not_getLsbD_wideSum_not, subFlags, lowNibble_eq_toNat, lowNibble_eq_toNat]

/-- 40_add_sub.md R106: adding back what was subtracted restores the registers, when the operand is not A. -/
theorem execList_sub_add {r : Reg} (hr : r ≠ .a) (s : State) :
    ∃ t, execList [.sub r, .add r] s = .next t ∧ ∀ q, t.read8 q = s.read8 q := by
  refine ⟨_, (execList_cons (exec_sub r s) _).trans (execList_cons (exec_add r _) _), fun q => ?_⟩
  by_cases hq : q = .a
  · subst hq
    simp [read8_write8, hr, addByte_subByte]
  · simp [read8_write8, hq]

/-! ### The obligations -/

/-- Settles O22: ADC and SBC are sums one bit wider, SBC's with the complements of the operand and the borrow. -/
theorem carriesAreTheNinthAndFifthBits : Obligations.CarriesAreTheNinthAndFifthBits := fun r s =>
  ⟨⟨_, exec_adc r s, addByte_eq_setWidth_wideSum _ _ _, addFlags_c _ _ _, addFlags_h _ _ _⟩,
    ⟨_, exec_sbc r s, subByte_eq_setWidth_wideSum _ _ _, subFlags_c _ _ _, subFlags_h _ _ _⟩,
    fun hr => execList_sub_add hr s⟩

/-- Settles O1, from the sum without a carry-in. -/
theorem addGivesSumModulo256AndFlags : Obligations.AddGivesSumModulo256AndFlags := by
  intro r s
  refine ⟨decode_descWord 0x00#8 0#3 r.code rfl rfl, ?_⟩
  rw [exec_add, addByte_eq_ofNat, addFlags_eq]
  rfl

/-- Settles O2, from the sum with the old carry. -/
theorem adcAddsOldCarry : Obligations.AdcAddsOldCarry := by
  intro r s
  refine ⟨decode_descWord 0x01#8 0#3 r.code rfl rfl, ?_, ?_⟩
  · rw [exec_adc, addByte_eq_ofNat, addFlags_eq]
    rfl
  · have hcin := s.f.c.toNat_le
    omega

/-- Settles O3, from the difference without a borrow-in. -/
theorem subGivesDifferenceModulo256AndFlags : Obligations.SubGivesDifferenceModulo256AndFlags := by
  intro r s
  refine ⟨decode_descWord 0x02#8 0#3 r.code rfl rfl, ?_⟩
  rw [exec_sub, subByte_eq_ofNat, subFlags_eq]
  rfl

/-- Settles O5: CP's flags are SUB's, and the difference is 0 only for equal bytes. -/
theorem cpSetsSubFlagsOnly : Obligations.CpSetsSubFlagsOnly := by
  intro r s
  refine ⟨decode_descWord 0x07#8 0#3 r.code rfl rfl, ?_, _, exec_sub r s, rfl⟩
  rw [exec_cp, subFlags, decide_eq_decide.mpr (subByte_false_eq_zero_iff s.a (s.read8 r))]
  rfl

end Sys2Proof.Machine

end

section
/-! PROOFS of the family 41_addhl.md: the word, result and flags of ADDHL for each operand (R120, R121). -/

namespace Sys2Proof.Machine

/-! ### The result and the flags as integers -/

theorem toNat_addWord (hl v : Word) : (addWord hl v).toNat = (hl.toNat + v.toNat) % 65536 := BitVec.toNat_ofNat _ _

/-- 41_addhl.md R121: H <- res[15:8]. -/
theorem hiByte_addWord (hl v : Word) :
    hiByte (addWord hl v) = BitVec.ofNat 8 ((hl.toNat + v.toNat) % 65536 / 256) := by
  rw [← toNat_addWord, hiByte, BitVec.extractLsb', Nat.shiftRight_eq_div_pow]

/-- 41_addhl.md R121: L <- res[7:0]. -/
theorem loByte_addWord (hl v : Word) :
    loByte (addWord hl v) = BitVec.ofNat 8 ((hl.toNat + v.toNat) % 65536 % 256) := by
  rw [← toNat_addWord]
  apply BitVec.eq_of_toNat_eq
  rw [loByte, BitVec.extractLsb'_toNat, BitVec.toNat_ofNat, Nat.mod_mod, Nat.shiftRight_zero]

/-- 41_addhl.md R121: the zero flag is that of the 16-bit result. -/
theorem addWord_eq_zero_iff (hl v : Word) : addWord hl v = 0#16 ↔ (hl.toNat + v.toNat) % 65536 = 0 := by
  rw [← toNat_addWord, ← BitVec.toNat_inj, BitVec.toNat_ofNat, Nat.zero_mod]

theorem addWordFlags_eq (hl v : Word) :
    addWordFlags hl v =
      ⟨decide ((hl.toNat + v.toNat) % 65536 = 0), false, decide (hl.toNat % 4096 + v.toNat % 4096 > 0xFFF),
        decide (hl.toNat + v.toNat > 65535)⟩ := by
  rw [addWordFlags, decide_eq_decide.mpr (addWord_eq_zero_iff hl v)]

/-! ### The operand and the next state -/

theorem addhlOperand_of_pairOperand {p : Pair} {s : State} {w : Word} (hw : pairOperand s p = some w) :
    p.addhlOperand = true := by
  cases p with
  | bc | de | hl | sp => rfl
  | af => cases hw

/-- 41_addhl.md R120: the operand's number, from the two registers of a pair or from the pin `sp_in`. -/
theorem exists_pairOperand_toNat_eq {p : Pair} {v : Nat} {s : State}
    (hv : (p = .bc ∧ v = s.b.toNat * 256 + s.c.toNat) ∨ (p = .de ∧ v = s.d.toNat * 256 + s.e.toNat) ∨
      (p = .hl ∧ v = s.h.toNat * 256 + s.l.toNat) ∨ (p = .sp ∧ v = s.pins.spIn.toNat)) :
    ∃ w, pairOperand s p = some w ∧ w.toNat = v := by
  obtain ⟨rfl, rfl⟩ | ⟨rfl, rfl⟩ | ⟨rfl, rfl⟩ | ⟨rfl, rfl⟩ := hv
  · exact ⟨_, rfl, toNat_append_byte s.b s.c⟩
  · exact ⟨_, rfl, toNat_append_byte s.d s.e⟩
  · exact ⟨_, rfl, toNat_append_byte s.h s.l⟩
  · exact ⟨_, rfl, rfl⟩

/-- 41_addhl.md R121: H and L are written together, with all four flags. -/
theorem exec_addhl_of_pairOperand {p : Pair} {s : State} {w : Word} (hw : pairOperand s p = some w) :
    exec (.addhl p) s = .next { s with
      h := hiByte (addWord (s.h ++ s.l) w)
      l := loByte (addWord (s.h ++ s.l) w)
      f := addWordFlags (s.h ++ s.l) w } :=
  execAddhl_of_pairOperand hw

/-! ### The obligation -/

/-- Settles O10: whichever operand is named, it is one word, and ADDHL adds that word to HL. -/
theorem addhlAddsPairIntoHl : Obligations.AddhlAddsPairIntoHl := by
  intro p v s hv
  obtain ⟨w, hw, rfl⟩ := exists_pairOperand_toNat_eq hv
  refine ⟨decode_descWord 0x0A#8 0#3 p.code (addhlOperand_of_pairOperand hw) rfl, ?_⟩
  rw [exec_addhl_of_pairOperand hw, hiByte_addWord, loByte_addWord, addWordFlags_eq, toNat_append_byte]

end Sys2Proof.Machine

end

section
/-! PROOFS of the family 42_bitwise.md: the words, results and flags of AND, OR and XOR (R130 to R132). -/

namespace Sys2Proof.Machine

/-! ### The next state of each operation -/

theorem exec_and (r : Reg) (s : State) : exec (.and r) s =
    .next { s with a := s.a &&& s.read8 r, f := logicFlags (s.a &&& s.read8 r) true } := rfl

theorem exec_or (r : Reg) (s : State) : exec (.or r) s =
    .next { s with a := s.a ||| s.read8 r, f := logicFlags (s.a ||| s.read8 r) false } := rfl

theorem exec_xor (r : Reg) (s : State) : exec (.xor r) s =
    .next { s with a := s.a ^^^ s.read8 r, f := logicFlags (s.a ^^^ s.read8 r) false } := rfl

/-! ### The flags as integers -/

/-- 42_bitwise.md R130: z = (res == 0). -/
theorem logicFlags_and (a v : Byte) (half : Bool) :
    logicFlags (a &&& v) half = ⟨decide (a.toNat &&& v.toNat = 0), false, half, false⟩ := by
  have hz : a &&& v = 0#8 ↔ a.toNat &&& v.toNat = 0 := by
    rw [← BitVec.toNat_inj, BitVec.toNat_and, BitVec.toNat_ofNat, Nat.zero_mod]
  rw [logicFlags, decide_eq_decide.mpr hz]

/-- 42_bitwise.md R131: "z = 1 only when both A and r are 0". -/
theorem logicFlags_or (a v : Byte) (half : Bool) :
    logicFlags (a ||| v) half = ⟨decide (a.toNat = 0 ∧ v.toNat = 0), false, half, false⟩ := by
  have hz : a ||| v = 0#8 ↔ a.toNat = 0 ∧ v.toNat = 0 := by
    rw [BitVec.or_eq_zero_iff, ← BitVec.toNat_inj, ← BitVec.toNat_inj, BitVec.toNat_ofNat, Nat.zero_mod]
  rw [logicFlags, decide_eq_decide.mpr hz]

/-- 42_bitwise.md R132: "z = 1 exactly when A == r". -/
theorem logicFlags_xor (a v : Byte) (half : Bool) :
    logicFlags (a ^^^ v) half = ⟨decide (a.toNat = v.toNat), false, half, false⟩ := by
  have hz : a ^^^ v = 0#8 ↔ a.toNat = v.toNat := BitVec.xor_eq_zero_iff.trans BitVec.toNat_inj.symm
  rw [logicFlags, decide_eq_decide.mpr hz]

/-! ### The obligation -/

/-- Settles O6: the bitwise results are those of the integers, and z is each rule's condition on A and the operand. -/
theorem bitwiseResultsAndFlags : Obligations.BitwiseResultsAndFlags := by
  intro r s
  refine ⟨⟨decode_descWord 0x04#8 0#3 r.code rfl rfl, ?_⟩, ⟨decode_descWord 0x05#8 0#3 r.code rfl rfl, ?_⟩,
    decode_descWord 0x06#8 0#3 r.code rfl rfl, ?_⟩
  · simp only [exec_and, logicFlags_and, BitVec.ofNat_and, BitVec.ofNat_toNat, BitVec.setWidth_eq]
  · simp only [exec_or, logicFlags_or, BitVec.ofNat_or, BitVec.ofNat_toNat, BitVec.setWidth_eq]
  · simp only [exec_xor, logicFlags_xor, BitVec.ofNat_xor, BitVec.ofNat_toNat, BitVec.setWidth_eq]

end Sys2Proof.Machine

end

section
/-! PROOFS of the family 43_incdec.md: the words, results and flags of INC and DEC (R140, R141), their half-carry as the low
nibble's crossing (R142), and the pairs INC then DEC and DEC then INC (R143). -/

namespace Sys2Proof.Machine

/-! ### The next state of each operation -/

theorem exec_inc (r : Reg) (s : State) : exec (.inc r) s =
    .next ((s.write8 r (addByte (s.read8 r) 1#8 false)).setFlags
      (keepCarry s.f (addFlags (s.read8 r) 1#8 false))) := rfl

theorem exec_dec (r : Reg) (s : State) : exec (.dec r) s =
    .next ((s.write8 r (subByte (s.read8 r) 1#8 false)).setFlags
      (keepCarry s.f (subFlags (s.read8 r) 1#8 false))) := rfl

/-! ### Results and flags as integers -/

/-- 43_incdec.md R141: adding 255 subtracts 1 modulo 256. -/
theorem subByte_one_eq_ofNat (v : Byte) : subByte v 1#8 false = BitVec.ofNat 8 ((v.toNat + 255) % 256) := by
  have hdiff : 256 + v.toNat - 1 = v.toNat + 255 := by omega
  rw [subByte_eq_ofNat, ← hdiff]
  rfl

theorem keepCarry_addFlags_one (old : Flags) (v : Byte) :
    keepCarry old (addFlags v 1#8 false) =
      ⟨decide ((v.toNat + 1) % 256 = 0), false, decide (v.toNat % 16 + 1 > 0xF), old.c⟩ := by
  rw [addFlags_eq]
  rfl

theorem keepCarry_subFlags_one (old : Flags) (v : Byte) :
    keepCarry old (subFlags v 1#8 false) =
      ⟨decide ((v.toNat + 255) % 256 = 0), true, decide (v.toNat % 16 < 1), old.c⟩ := by
  have hdiff : 256 + v.toNat - 1 = v.toNat + 255 := by omega
  rw [subFlags_eq, ← hdiff]
  rfl

/-! ### The low nibble before and after (R142) -/

theorem setWidth_addByte_one (v : Byte) : (addByte v 1#8 false).setWidth 4 = v.setWidth 4 + 1#4 := by
  apply BitVec.eq_of_toNat_eq
  simp only [BitVec.toNat_add, BitVec.toNat_setWidth, BitVec.toNat_ofNat, toNat_addByte, Bool.toNat_false]
  omega

theorem setWidth_subByte_one (v : Byte) : (subByte v 1#8 false).setWidth 4 = v.setWidth 4 - 1#4 := by
  apply BitVec.eq_of_toNat_eq
  simp only [BitVec.toNat_sub, BitVec.toNat_setWidth, BitVec.toNat_ofNat, toNat_subByte, Bool.toNat_false]
  omega

/-- 43_incdec.md R142: INC's half-carry says that the low nibble was 0xF. -/
theorem addFlags_one_h (v : Byte) : (addFlags v 1#8 false).h = decide (v.setWidth 4 = 0xF#4) := by
  have hlt := (v.setWidth 4).isLt
  rw [addFlags, lowNibble_eq_toNat, decide_eq_decide, ← BitVec.toNat_inj]
  show (v.setWidth 4).toNat + 1 + 0 > 15 ↔ (v.setWidth 4).toNat = 15
  omega

/-- 43_incdec.md R142: DEC's half-carry says that the low nibble was 0x0. -/
theorem subFlags_one_h (v : Byte) : (subFlags v 1#8 false).h = decide (v.setWidth 4 = 0x0#4) := by
  rw [subFlags, lowNibble_eq_toNat, decide_eq_decide, ← BitVec.toNat_inj]
  exact Nat.lt_one_iff

theorem nibble_add_one_eq_zero_iff (x : BitVec 4) : x + 1#4 = 0x0#4 ↔ x = 0xF#4 := by
  revert x
  decide

theorem nibble_sub_one_eq_fifteen_iff (x : BitVec 4) : x - 1#4 = 0xF#4 ↔ x = 0x0#4 := by
  revert x
  decide

/-- A flag that tells a condition on the value before tells the crossing, when the condition on the value after is
equivalent. -/
theorem flag_iff_crossing {flag : Bool} {before after : Prop} [Decidable before] (hflag : flag = decide before)
    (hafter : after ↔ before) : (flag = true ↔ before ∧ after) ∧ (flag = false ↔ ¬before ∧ ¬after) := by
  simp [hflag, hafter]

/-! ### INC and DEC one after the other (R143) -/

theorem subByte_addByte (a v : Byte) : subByte (addByte a v false) v false = a := by
  have ha := a.isLt
  have hv := v.isLt
  apply BitVec.eq_of_toNat_eq
  rw [toNat_subByte, toNat_addByte, Bool.toNat_false]
  omega

/-- Writing a register's old value back leaves of two writes only the flags of the second. -/
theorem write8_setFlags_restore (s : State) (r : Reg) (v : Byte) (f g : Flags) :
    (((s.write8 r v).setFlags f).write8 r (s.read8 r)).setFlags g = s.setFlags g := by
  rw [setFlags_write8, write8_write8, write8_read8, setFlags_setFlags]

theorem execList_inc_dec (r : Reg) (s : State) : execList [.inc r, .dec r] s =
    .next (s.setFlags (keepCarry s.f (subFlags (addByte (s.read8 r) 1#8 false) 1#8 false))) := by
  rw [execList_cons (exec_inc r s), execList_cons (exec_dec r _), read8_setFlags, read8_write8_same, subByte_addByte,
    write8_setFlags_restore]
  rfl

theorem execList_dec_inc (r : Reg) (s : State) : execList [.dec r, .inc r] s =
    .next (s.setFlags (keepCarry s.f (addFlags (subByte (s.read8 r) 1#8 false) 1#8 false))) := by
  rw [execList_cons (exec_dec r s), execList_cons (exec_inc r _), read8_setFlags, read8_write8_same, addByte_subByte,
    write8_setFlags_restore]
  rfl

/-- 43_incdec.md R143: the flags after INC then DEC, from the value before both. -/
theorem keepCarry_subFlags_addByte_one (old : Flags) (v : Byte) :
    keepCarry old (subFlags (addByte v 1#8 false) 1#8 false) =
      ⟨decide (v.toNat = 0), true, decide (v.toNat % 16 = 0xF), old.c⟩ := by
  have hv := v.isLt
  have hinc : (addByte v 1#8 false).toNat = (v.toNat + 1) % 256 := toNat_addByte v 1#8 false
  have hz : ((v.toNat + 1) % 256 + 255) % 256 = 0 ↔ v.toNat = 0 := by omega
  have hh : (v.toNat + 1) % 256 % 16 < 1 ↔ v.toNat % 16 = 0xF := by omega
  rw [keepCarry_subFlags_one, hinc, decide_eq_decide.mpr hz, decide_eq_decide.mpr hh]

/-! ### The obligations -/

/-- Settles O9: the half-carry tells the nibble before, and INC and DEC move the nibble by one modulo 16. -/
theorem incDecHalfCarryIsNibbleCrossing : Obligations.IncDecHalfCarryIsNibbleCrossing := by
  intro r s
  refine ⟨_, _, exec_inc r s, exec_dec r s, ?_⟩
  rw [read8_setFlags, read8_write8_same, setWidth_addByte_one, read8_setFlags, read8_write8_same, setWidth_subByte_one]
  obtain ⟨hincSet, hincClear⟩ := flag_iff_crossing (addFlags_one_h (s.read8 r)) (nibble_add_one_eq_zero_iff _)
  obtain ⟨hdecSet, hdecClear⟩ := flag_iff_crossing (subFlags_one_h (s.read8 r)) (nibble_sub_one_eq_fifteen_iff _)
  exact ⟨hincSet, hincClear, hdecSet, hdecClear⟩

/-- Settles O23: each of the pairs writes the register's old value back, and each operation copies the carry. -/
theorem incThenDecRestoresRegisterAndCarry : Obligations.IncThenDecRestoresRegisterAndCarry := by
  intro r s
  refine ⟨?_, _, execList_dec_inc r s, read8_setFlags s _, rfl, rfl, rfl, rfl, rfl⟩
  rw [execList_inc_dec, keepCarry_subFlags_addByte_one]
  rfl

/-- Settles O7, from the sum with operand 1. -/
theorem incAddsOneKeepsCarry : Obligations.IncAddsOneKeepsCarry := by
  intro r s
  refine ⟨decode_descWord 0x08#8 0#3 r.code rfl rfl, ?_, by omega, by omega⟩
  rw [exec_inc, addByte_eq_ofNat, keepCarry_addFlags_one]
  rfl

/-- Settles O8, from the difference with operand 1. -/
theorem decSubtractsOneKeepsCarry : Obligations.DecSubtractsOneKeepsCarry := by
  intro r s
  refine ⟨decode_descWord 0x09#8 0#3 r.code rfl rfl, ?_, by omega, by omega⟩
  rw [exec_dec, subByte_one_eq_ofNat, keepCarry_subFlags_one]

end Sys2Proof.Machine

end

section
/-! PROOFS of the family 44_flag_acc_ops.md: CCF, SCF and CPL (R150, R151, R157), the accumulator rotates (R152 to R155),
DAA by its two branches and by its table (R158, R160), and decimal arithmetic through DAA (R161). -/

namespace Sys2Proof.Machine

/-! ### The next state of each operation -/

theorem exec_ccf (s : State) : exec .ccf s = .next { s with f := ⟨s.f.z, false, false, !s.f.c⟩ } := rfl

theorem exec_scf (s : State) : exec .scf s = .next { s with f := ⟨s.f.z, false, false, true⟩ } := rfl

theorem exec_rra (s : State) : exec .rra s =
    .next { s with a := shiftRight s.f.c s.a, f := ⟨false, false, false, s.a.getLsbD 0⟩ } := rfl

theorem exec_rla (s : State) : exec .rla s =
    .next { s with a := shiftLeft s.f.c s.a, f := ⟨false, false, false, s.a.getLsbD 7⟩ } := rfl

theorem exec_rrca (s : State) : exec .rrca s =
    .next { s with a := shiftRight (s.a.getLsbD 0) s.a, f := ⟨false, false, false, s.a.getLsbD 0⟩ } := rfl

theorem exec_rrla (s : State) : exec .rrla s =
    .next { s with a := shiftLeft (s.a.getLsbD 7) s.a, f := ⟨false, false, false, s.a.getLsbD 7⟩ } := rfl

theorem exec_cpl (s : State) :
    exec .cpl s = .next { s with a := ~~~s.a, f := ⟨s.f.z, true, true, s.f.c⟩ } := rfl

theorem exec_daa (s : State) : exec .daa s = .next { s with
    a := daaByte s.a s.f
    f := ⟨decide (daaByte s.a s.f = 0#8), s.f.n, false, daaCarry s.a s.f⟩ } := rfl

/-! ### Moving a byte by one bit, as integers -/

theorem toNat_bitByte (b : Bool) : (bitByte b).toNat = b.toNat := by
  cases b <;> rfl

theorem getLsbD_zero_eq_decide (v : Byte) : v.getLsbD 0 = decide (v.toNat % 2 = 1) := by
  rw [← BitVec.testBit_toNat, Nat.testBit_zero]

theorem getLsbD_seven_eq_decide (v : Byte) : v.getLsbD 7 = decide (v.toNat ≥ 128) :=
  BitVec.getLsbD_last v

theorem toNat_getLsbD_zero (v : Byte) : (v.getLsbD 0).toNat = v.toNat % 2 := by
  rw [getLsbD_zero_eq_decide, Bool.toNat, Bool.cond_decide]
  split <;> omega

theorem toNat_getLsbD_seven (v : Byte) : (v.getLsbD 7).toNat = v.toNat / 128 := by
  have hv := v.isLt
  rw [getLsbD_seven_eq_decide, Bool.toNat, Bool.cond_decide]
  split <;> omega

/-- The bit that enters at the top stands above the seven that stay. -/
theorem toNat_shiftRight (top : Bool) (v : Byte) : (shiftRight top v).toNat = top.toNat * 128 + v.toNat / 2 := by
  have htop := top.toNat_le
  have hv := v.isLt
  have hhalf : v.toNat / 2 < 2 ^ 7 := by omega
  have hfits : top.toNat <<< 7 % 2 ^ 8 = 2 ^ 7 * top.toNat := by rw [Nat.shiftLeft_eq]; omega
  rw [shiftRight, BitVec.toNat_or, BitVec.toNat_shiftLeft, BitVec.toNat_ushiftRight, toNat_bitByte, hfits,
    Nat.shiftRight_one, ← Nat.two_pow_add_eq_or_of_lt hhalf]
  omega

/-- The bit that enters at the bottom stands below the seven that stay. -/
theorem toNat_shiftLeft (bottom : Bool) (v : Byte) :
    (shiftLeft bottom v).toNat = v.toNat * 2 % 256 + bottom.toNat := by
  have hbottom : bottom.toNat < 2 ^ 1 := bottom.toNat_lt
  have heven : v.toNat <<< 1 % 2 ^ 8 = 2 ^ 1 * (v.toNat % 128) := by rw [Nat.shiftLeft_eq]; omega
  rw [shiftLeft, BitVec.toNat_or, BitVec.toNat_shiftLeft, toNat_bitByte, heven, ← Nat.two_pow_add_eq_or_of_lt hbottom]
  omega

theorem shiftRight_eq_ofNat (top : Bool) (v : Byte) :
    shiftRight top v = BitVec.ofNat 8 (top.toNat * 128 + v.toNat / 2) := by
  rw [← toNat_shiftRight, BitVec.ofNat_toNat, BitVec.setWidth_eq]

theorem shiftLeft_eq_ofNat (bottom : Bool) (v : Byte) :
    shiftLeft bottom v = BitVec.ofNat 8 (v.toNat * 2 % 256 + bottom.toNat) := by
  rw [← toNat_shiftLeft, BitVec.ofNat_toNat, BitVec.setWidth_eq]

/-! ### DAA's two branches (R158) -/

/-- DAA's correction, from whether the high and the low digit need one. -/
def daaCorrection (high low : Bool) : Nat := (if high then 0x60 else 0) + (if low then 0x06 else 0)

theorem daaCorrection_le (high low : Bool) : daaCorrection high low ≤ 0x66 := by
  cases high <;> cases low <;> decide

/-- After an addition the high digit is corrected exactly when the new carry is 1. -/
theorem daa_of_add {a : Byte} {f : Flags} {high low : Bool} (hn : f.n = false)
    (hhigh : (f.c || decide (a.toNat > 0x99)) = high) (hlow : (f.h || decide (a.toNat % 16 > 9)) = low) :
    daaByte a f = a + BitVec.ofNat 8 (daaCorrection high low) ∧ daaCarry a f = high := by
  subst hhigh hlow
  simp [daaByte, daaAdjust, daaCarry, daaCorrection, lowNibble, hn, BitVec.ofNat_add]

/-- After a subtraction the flags alone select the correction, and the carry is kept (R159, D15). -/
theorem daa_of_sub {a : Byte} {f : Flags} (hn : f.n = true) :
    daaByte a f = a - BitVec.ofNat 8 (daaCorrection f.c f.h) ∧ daaCarry a f = f.c := by
  have hadjust : daaAdjust a f = daaCorrection f.c f.h := by
    simp only [daaAdjust, daaCorrection, hn]
    cases f.c <;> cases f.h <;> rfl
  have hle := daaCorrection_le f.c f.h
  refine ⟨?_, by simp [daaCarry, hn]⟩
  apply BitVec.eq_of_toNat_eq
  rw [daaByte, if_pos hn, hadjust, BitVec.toNat_ofInt, BitVec.toNat_sub, BitVec.toNat_ofNat]
  omega

theorem add_ofNat_eq_ofNat (a : Byte) (adj : Nat) :
    a + BitVec.ofNat 8 adj = BitVec.ofNat 8 ((a.toNat + adj) % 256) := by
  apply BitVec.eq_of_toNat_eq
  simp

theorem sub_ofNat_eq_ofNat {adj : Nat} (hadj : adj ≤ 256) (a : Byte) :
    a - BitVec.ofNat 8 adj = BitVec.ofNat 8 ((256 + a.toNat - adj) % 256) := by
  apply BitVec.eq_of_toNat_eq
  rw [BitVec.toNat_sub, BitVec.toNat_ofNat, BitVec.toNat_ofNat]
  omega

theorem ofNat_mod_eq_zero_iff (n : Nat) : BitVec.ofNat 8 (n % 256) = 0#8 ↔ n % 256 = 0 := by
  rw [← BitVec.toNat_inj, BitVec.toNat_ofNat, BitVec.toNat_ofNat]
  omega

/-- DAA's next state from a result and a carry known as integers. -/
theorem exec_daa_of_eq {s : State} {res : Nat} {carry : Bool}
    (h : daaByte s.a s.f = BitVec.ofNat 8 (res % 256) ∧ daaCarry s.a s.f = carry) :
    exec .daa s = .next { s with
      a := BitVec.ofNat 8 (res % 256), f := ⟨decide (res % 256 = 0), s.f.n, false, carry⟩ } := by
  obtain ⟨hbyte, hcarry⟩ := h
  rw [exec_daa, hbyte, hcarry, decide_eq_decide.mpr (ofNat_mod_eq_zero_iff res)]

/-! ### The rows of DAA's table (R160) -/

/-- A row of the table: under the flags n, c, h and the condition on A, DAA's result and carry. -/
def DaaRow (s : State) (n c h : Bool) (cond : Prop) (res : Byte) (carry : Bool) : Prop :=
  s.f.n = n → s.f.c = c → s.f.h = h → cond → daaByte s.a s.f = res ∧ daaCarry s.a s.f = carry

/-- A row after an addition: its condition decides each digit's correction. -/
theorem daaRow_of_add {s : State} {c h high : Bool} {cond : Prop} {res : Byte} (low : Bool)
    (hres : s.a + BitVec.ofNat 8 (daaCorrection high low) = res)
    (hdigits : cond → (c || decide (s.a.toNat > 0x99)) = high ∧ (h || decide (s.a.toNat % 16 > 9)) = low) :
    DaaRow s false c h cond res high := by
  rintro hn rfl rfl hcond
  obtain ⟨hhigh, hlow⟩ := hdigits hcond
  rw [← hres]
  exact daa_of_add hn hhigh hlow

/-- A row after a subtraction: its flags decide each digit's correction. -/
theorem daaRow_of_sub {s : State} {c h : Bool} {res : Byte}
    (hres : s.a - BitVec.ofNat 8 (daaCorrection c h) = res) : DaaRow s true c h True res c := by
  rintro hn rfl rfl -
  rw [← hres]
  exact daa_of_sub hn

/-! ### Decimal bytes through DAA (R161) -/

theorem toNat_bcdByte {n : Nat} (hn : n < 100) : (bcdByte n).toNat = n / 10 * 16 + n % 10 :=
  Nat.mod_eq_of_lt (by omega)

/-- A number below 100 and its byte, by the two decimal digits. -/
theorem exists_digits {n : Nat} (hn : n < 100) :
    ∃ tens units, tens ≤ 9 ∧ units ≤ 9 ∧ n = tens * 10 + units ∧ (bcdByte n).toNat = tens * 16 + units :=
  ⟨n / 10, n % 10, by omega, by omega, by omega, toNat_bcdByte hn⟩

/-- R161, addition: DAA corrects the low digit when the units reach 10, and the high digit when the whole sum reaches
100. -/
theorem daa_after_addByte {x y : Nat} (hx : x < 100) (hy : y < 100) (k : Bool) :
    daaByte (addByte (bcdByte x) (bcdByte y) k) (addFlags (bcdByte x) (bcdByte y) k) =
        bcdByte ((x + y + k.toNat) % 100) ∧
      daaCarry (addByte (bcdByte x) (bcdByte y) k) (addFlags (bcdByte x) (bcdByte y) k) =
        decide (x + y + k.toNat ≥ 100) := by
  obtain ⟨xt, xu, hxt, hxu, hxval, hxbyte⟩ := exists_digits hx
  obtain ⟨yt, yu, hyt, hyu, hyval, hybyte⟩ := exists_digits hy
  have hk := k.toNat_le
  have hsum := toNat_addByte (bcdByte x) (bcdByte y) k
  rw [hxbyte, hybyte] at hsum
  have hhigh : ((addFlags (bcdByte x) (bcdByte y) k).c || decide ((addByte (bcdByte x) (bcdByte y) k).toNat > 0x99)) =
      decide (x + y + k.toNat ≥ 100) := by
    rw [addFlags_eq, ← Bool.decide_or, decide_eq_decide]
    omega
  have hlow : ((addFlags (bcdByte x) (bcdByte y) k).h || decide ((addByte (bcdByte x) (bcdByte y) k).toNat % 16 > 9)) =
      decide (xu + yu + k.toNat ≥ 10) := by
    rw [addFlags_eq, ← Bool.decide_or, decide_eq_decide]
    omega
  obtain ⟨hbyte, hcarry⟩ := daa_of_add rfl hhigh hlow
  refine ⟨?_, hcarry⟩
  apply BitVec.eq_of_toNat_eq
  rw [hbyte, toNat_bcdByte (Nat.mod_lt _ (by decide)), BitVec.toNat_add, BitVec.toNat_ofNat, hsum]
  simp only [daaCorrection, decide_eq_true_eq]
  split <;> split <;> omega

/-- R161, subtraction: the half-carry says that the units borrow, the carry that the whole difference does. -/
theorem daa_after_subByte {x y : Nat} (hx : x < 100) (hy : y < 100) (k : Bool) :
    daaByte (subByte (bcdByte x) (bcdByte y) k) (subFlags (bcdByte x) (bcdByte y) k) =
        bcdByte ((100 + x - (y + k.toNat)) % 100) ∧
      daaCarry (subByte (bcdByte x) (bcdByte y) k) (subFlags (bcdByte x) (bcdByte y) k) =
        decide (x < y + k.toNat) := by
  obtain ⟨xt, xu, hxt, hxu, hxval, hxbyte⟩ := exists_digits hx
  obtain ⟨yt, yu, hyt, hyu, hyval, hybyte⟩ := exists_digits hy
  have hk := k.toNat_le
  have hdiff := toNat_subByte (bcdByte x) (bcdByte y) k
  rw [hxbyte, hybyte] at hdiff
  have hc : (subFlags (bcdByte x) (bcdByte y) k).c = decide (x < y + k.toNat) := by
    rw [subFlags_eq, decide_eq_decide]
    omega
  have hh : (subFlags (bcdByte x) (bcdByte y) k).h = decide (xu < yu + k.toNat) := by
    rw [subFlags_eq, decide_eq_decide]
    omega
  obtain ⟨hbyte, hcarry⟩ := daa_of_sub (a := subByte (bcdByte x) (bcdByte y) k) (f := subFlags _ _ k) rfl
  refine ⟨?_, hcarry.trans hc⟩
  apply BitVec.eq_of_toNat_eq
  rw [hbyte, hc, hh, toNat_bcdByte (Nat.mod_lt _ (by decide)), BitVec.toNat_sub, BitVec.toNat_ofNat, hdiff]
  simp only [daaCorrection, decide_eq_true_eq]
  split <;> split <;> omega

/-! ### The obligations -/

/-- Settles O12: each rotate is a move by one bit, of which the entering and the leaving bit are known as integers. -/
theorem accumulatorRotatesForceZeroFlagLow : Obligations.AccumulatorRotatesForceZeroFlagLow := by
  intro s
  refine ⟨⟨rfl, ?_⟩, ⟨rfl, ?_⟩, ⟨rfl, ?_⟩, rfl, ?_⟩
  · rw [exec_rra, shiftRight_eq_ofNat, getLsbD_zero_eq_decide]
  · rw [exec_rla, shiftLeft_eq_ofNat, getLsbD_seven_eq_decide]
  · rw [exec_rrca, shiftRight_eq_ofNat, toNat_getLsbD_zero, getLsbD_zero_eq_decide]
  · rw [exec_rrla, shiftLeft_eq_ofNat, toNat_getLsbD_seven, getLsbD_seven_eq_decide]

/-- Settles O15: the frame is that of an operation that writes A and the flags, and each row fixes the two digits'
corrections. -/
theorem daaOutcomesByTable : Obligations.DaaOutcomesByTable := by
  intro s
  obtain ⟨-, -, hregs, houtside⟩ := writeBoth_next (exec_daa s)
  refine ⟨_, exec_daa s, rfl, rfl, rfl, hregs, houtside, ?_⟩
  exact ⟨
    daaRow_of_add false (BitVec.add_zero s.a) fun ⟨hbig, hlow⟩ => ⟨decide_eq_false hbig, decide_eq_false hlow⟩,
    daaRow_of_add true rfl fun ⟨hbig, hlow⟩ => ⟨decide_eq_false hbig, decide_eq_true hlow⟩,
    daaRow_of_add false rfl fun ⟨hbig, hlow⟩ => ⟨decide_eq_true hbig, decide_eq_false hlow⟩,
    daaRow_of_add true rfl fun ⟨hbig, hlow⟩ => ⟨decide_eq_true hbig, decide_eq_true hlow⟩,
    daaRow_of_add true rfl fun hbig => ⟨decide_eq_false hbig, rfl⟩,
    daaRow_of_add true rfl fun hbig => ⟨decide_eq_true hbig, rfl⟩,
    daaRow_of_add false rfl fun hlow => ⟨rfl, decide_eq_false hlow⟩,
    daaRow_of_add true rfl fun hlow => ⟨rfl, decide_eq_true hlow⟩,
    daaRow_of_add true rfl fun _ => ⟨rfl, rfl⟩,
    daaRow_of_sub (BitVec.sub_zero s.a), daaRow_of_sub rfl, daaRow_of_sub rfl, daaRow_of_sub rfl⟩

/-- Settles O26, for ADD without and for ADC with the old carry. -/
theorem decimalAdditionThroughDaa : Obligations.DecimalAdditionThroughDaa := by
  intro s r x y hx hy ha hv
  refine ⟨⟨_, (execList_cons (exec_add r s) _).trans (execList_cons (exec_daa _) _), ?_⟩,
    ⟨_, (execList_cons (exec_adc r s) _).trans (execList_cons (exec_daa _) _), ?_⟩⟩
  · rw [ha, hv]
    exact daa_after_addByte hx hy false
  · rw [ha, hv]
    exact daa_after_addByte hx hy s.f.c

/-- Settles O27, for SUB without and for SBC with the old carry. -/
theorem decimalSubtractionThroughDaa : Obligations.DecimalSubtractionThroughDaa := by
  intro s r x y hx hy ha hv
  refine ⟨⟨_, (execList_cons (exec_sub r s) _).trans (execList_cons (exec_daa _) _), ?_⟩,
    ⟨_, (execList_cons (exec_sbc r s) _).trans (execList_cons (exec_daa _) _), ?_⟩⟩
  · rw [ha, hv]
    exact daa_after_subByte hx hy false
  · rw [ha, hv]
    exact daa_after_subByte hx hy s.f.c

/-- Settles O11: both write the flags only. -/
theorem ccfTogglesAndScfSetsCarry : Obligations.CcfTogglesAndScfSetsCarry := fun s =>
  ⟨rfl, exec_ccf s, rfl, exec_scf s⟩

/-- Settles O13: the complement of a byte is its difference from 255. -/
theorem cplComplementsKeepsZeroAndCarry : Obligations.CplComplementsKeepsZeroAndCarry := by
  intro s
  have hnot : (~~~s.a).toNat = 255 - s.a.toNat := BitVec.toNat_not
  refine ⟨rfl, ?_⟩
  rw [exec_cpl, ← hnot, BitVec.ofNat_toNat, BitVec.setWidth_eq]

/-- Settles O14, from the two branches. -/
theorem daaFollowsItsPseudocode : Obligations.DaaFollowsItsPseudocode := by
  intro s a add60 add06
  refine ⟨rfl, fun hn adj hadj => ?_, fun hn adj hadj => ?_⟩
  · have hhigh : (s.f.c || decide (s.a.toNat > 0x99)) = decide add60 := by simp [add60, a]
    have hlow : (s.f.h || decide (s.a.toNat % 16 > 9)) = decide add06 := by simp [add06, a]
    have hadj' : adj = daaCorrection (decide add60) (decide add06) := by
      simp only [hadj, daaCorrection, decide_eq_true_eq]
    have hsum : daaByte s.a s.f = BitVec.ofNat 8 ((s.a.toNat + adj) % 256) ∧ daaCarry s.a s.f = decide add60 := by
      rw [← add_ofNat_eq_ofNat, hadj']
      exact daa_of_add hn hhigh hlow
    rw [exec_daa_of_eq hsum, hn]
  · have hadj' : adj = daaCorrection s.f.c s.f.h := by
      rw [hadj, daaCorrection]
      cases s.f.c <;> cases s.f.h <;> rfl
    have hle := daaCorrection_le s.f.c s.f.h
    have hdiff : daaByte s.a s.f = BitVec.ofNat 8 ((256 + s.a.toNat - adj) % 256) ∧ daaCarry s.a s.f = s.f.c := by
      rw [← sub_ofNat_eq_ofNat (by omega), hadj']
      exact daa_of_sub hn
    rw [exec_daa_of_eq hdiff, hn]

end Sys2Proof.Machine

end

section
/-! PROOFS of the family 45_bit_ops.md: the words of BIT, RESET and SET, the flags of BIT (R170), and the one bit that RESET
and SET write (R171, R172). -/

namespace Sys2Proof.Machine

/-! ### The next state of each operation -/

theorem exec_bit (r : Reg) (n : BitIndex) (s : State) :
    exec (.bit r n) s = .next { s with f := bitFlags (s.read8 r) n s.f } := rfl

theorem exec_resetBit (r : Reg) (n : BitIndex) (s : State) :
    exec (.resetBit r n) s = .next (s.write8 r (s.read8 r &&& ~~~bitMask n)) := rfl

theorem exec_setBit (r : Reg) (n : BitIndex) (s : State) :
    exec (.setBit r n) s = .next (s.write8 r (s.read8 r ||| bitMask n)) := rfl

/-! ### The mask of a bit index -/

theorem bitMask_eq_twoPow (n : BitIndex) : bitMask n = BitVec.twoPow 8 n.val := rfl

theorem getLsbD_bitMask (n k : BitIndex) : (bitMask n).getLsbD k.val = decide (k = n) := by
  simp only [bitMask_eq_twoPow, BitVec.getLsbD_twoPow, n.isLt, decide_true, Bool.true_and, Fin.ext_iff, eq_comm]

theorem bitMask_ne_zero (n : BitIndex) : bitMask n ≠ 0#8 := by
  intro hzero
  have hbit : (bitMask n).getLsbD n.val = true := by rw [getLsbD_bitMask, decide_eq_true rfl]
  rw [hzero, BitVec.getLsbD_zero] at hbit
  exact Bool.false_ne_true hbit

theorem and_bitMask_eq_zero_iff (v : Byte) (n : BitIndex) : v &&& bitMask n = 0#8 ↔ v.getLsbD n.val = false := by
  have hand : v &&& bitMask n = if v.getLsbD n.val then bitMask n else 0#8 := BitVec.and_twoPow v n.val
  rw [hand]
  cases v.getLsbD n.val <;> simp [bitMask_ne_zero]

/-! ### The flags of BIT, and the bits of the bytes that RESET and SET write -/

/-- 45_bit_ops.md R170: z is 1 exactly when the tested bit is 0. -/
theorem bitFlags_eq (v : Byte) (n : BitIndex) (old : Flags) :
    bitFlags v n old = ⟨!v.getLsbD n.val, false, true, old.c⟩ := by
  simp only [bitFlags, and_bitMask_eq_zero_iff, Bool.decide_eq_false]

/-- 45_bit_ops.md R171. -/
theorem getLsbD_and_not_bitMask (v : Byte) (n k : BitIndex) :
    (v &&& ~~~bitMask n).getLsbD k.val = if k = n then false else v.getLsbD k.val := by
  rw [BitVec.getLsbD_and, BitVec.getLsbD_not, getLsbD_bitMask]
  by_cases hk : k = n <;> simp [hk]

/-- 45_bit_ops.md R172. -/
theorem getLsbD_or_bitMask (v : Byte) (n k : BitIndex) :
    (v ||| bitMask n).getLsbD k.val = if k = n then true else v.getLsbD k.val := by
  rw [BitVec.getLsbD_or, getLsbD_bitMask]
  by_cases hk : k = n <;> simp [hk]

/-! ### The obligations -/

/-- Settles O16: BIT writes the flags only, and its z is the complement of the bit that the mask selects. -/
theorem bitTestsAndWritesNoRegister : Obligations.BitTestsAndWritesNoRegister := by
  intro r n s
  refine ⟨decode_descWord 0x13#8 ⟨n⟩ r.code rfl rfl, ?_⟩
  rw [exec_bit, bitFlags_eq]

/-- Settles O17: both write the register only, and the mask changes no bit but bit n. -/
theorem resetClearsAndSetSetsOneBit : Obligations.ResetClearsAndSetSetsOneBit := fun r n s =>
  ⟨decode_descWord 0x14#8 ⟨n⟩ r.code rfl rfl, decode_descWord 0x15#8 ⟨n⟩ r.code rfl rfl,
    ⟨_, exec_resetBit r n s, getLsbD_and_not_bitMask (s.read8 r) n⟩,
    ⟨_, exec_setBit r n s, getLsbD_or_bitMask (s.read8 r) n⟩⟩

end Sys2Proof.Machine

end

section
/-! PROOFS of the family 46_shift_rotate.md: the words, results and flags of the shifts and rotates of any register (R181 to
R187) and of SWAP (R188), and the accumulator rotates beside the general ones on A (R189). -/

namespace Sys2Proof.Machine

/-! ### The next state of each operation -/

theorem exec_srl (r : Reg) (s : State) : exec (.srl r) s =
    .next ((s.write8 r (shiftRight false (s.read8 r))).setFlags
      (shiftFlags (shiftRight false (s.read8 r)) ((s.read8 r).getLsbD 0))) := rfl

theorem exec_rr (r : Reg) (s : State) : exec (.rr r) s =
    .next ((s.write8 r (shiftRight s.f.c (s.read8 r))).setFlags
      (shiftFlags (shiftRight s.f.c (s.read8 r)) ((s.read8 r).getLsbD 0))) := rfl

theorem exec_rl (r : Reg) (s : State) : exec (.rl r) s =
    .next ((s.write8 r (shiftLeft s.f.c (s.read8 r))).setFlags
      (shiftFlags (shiftLeft s.f.c (s.read8 r)) ((s.read8 r).getLsbD 7))) := rfl

theorem exec_rrc (r : Reg) (s : State) : exec (.rrc r) s =
    .next ((s.write8 r (shiftRight ((s.read8 r).getLsbD 0) (s.read8 r))).setFlags
      (shiftFlags (shiftRight ((s.read8 r).getLsbD 0) (s.read8 r)) ((s.read8 r).getLsbD 0))) := rfl

theorem exec_rlc (r : Reg) (s : State) : exec (.rlc r) s =
    .next ((s.write8 r (shiftLeft ((s.read8 r).getLsbD 7) (s.read8 r))).setFlags
      (shiftFlags (shiftLeft ((s.read8 r).getLsbD 7) (s.read8 r)) ((s.read8 r).getLsbD 7))) := rfl

theorem exec_sra (r : Reg) (s : State) : exec (.sra r) s =
    .next ((s.write8 r (shiftRight ((s.read8 r).getLsbD 7) (s.read8 r))).setFlags
      (shiftFlags (shiftRight ((s.read8 r).getLsbD 7) (s.read8 r)) ((s.read8 r).getLsbD 0))) := rfl

theorem exec_sla (r : Reg) (s : State) : exec (.sla r) s =
    .next ((s.write8 r (shiftLeft false (s.read8 r))).setFlags
      (shiftFlags (shiftLeft false (s.read8 r)) ((s.read8 r).getLsbD 7))) := rfl

theorem exec_swap (r : Reg) (s : State) : exec (.swap r) s =
    .next ((s.write8 r (swapNibbles (s.read8 r))).setFlags (shiftFlags (swapNibbles (s.read8 r)) false)) := rfl

/-! ### Results and flags as integers -/

/-- 46_shift_rotate.md R180: z = (res == 0), for a result known as an integer. -/
theorem shiftFlags_of_toNat {res : Byte} {n : Nat} (hres : res.toNat = n) (out : Bool) :
    shiftFlags res out = ⟨decide (n = 0), false, false, out⟩ := by
  have hz : res = 0#8 ↔ n = 0 := by rw [← BitVec.toNat_inj, hres, BitVec.toNat_ofNat, Nat.zero_mod]
  rw [shiftFlags, decide_eq_decide.mpr hz]

/-- 46_shift_rotate.md R180: moved to the right, the bit shifted out is bit 0. -/
theorem shiftFlags_shiftRight (top : Bool) (v : Byte) :
    shiftFlags (shiftRight top v) (v.getLsbD 0) =
      ⟨decide (top.toNat * 128 + v.toNat / 2 = 0), false, false, decide (v.toNat % 2 = 1)⟩ := by
  rw [shiftFlags_of_toNat (toNat_shiftRight top v), getLsbD_zero_eq_decide]

/-- 46_shift_rotate.md R180: moved to the left, the bit shifted out is bit 7. -/
theorem shiftFlags_shiftLeft (bottom : Bool) (v : Byte) :
    shiftFlags (shiftLeft bottom v) (v.getLsbD 7) =
      ⟨decide (v.toNat * 2 % 256 + bottom.toNat = 0), false, false, decide (v.toNat ≥ 128)⟩ := by
  rw [shiftFlags_of_toNat (toNat_shiftLeft bottom v), getLsbD_seven_eq_decide]

/-- 46_shift_rotate.md R188: low nibble to the top, high nibble to the bottom. -/
theorem toNat_swapNibbles (v : Byte) : (swapNibbles v).toNat = v.toNat % 16 * 16 + v.toNat / 16 := by
  have hv := v.isLt
  have hhigh : v.toNat / 16 < 2 ^ 4 := by omega
  have hlow : (v &&& 0x0F#8).toNat = v.toNat % 16 := Nat.and_two_pow_sub_one_eq_mod v.toNat 4
  have hfits : (v.toNat % 16) <<< 4 % 2 ^ 8 = 2 ^ 4 * (v.toNat % 16) := by rw [Nat.shiftLeft_eq]; omega
  rw [swapNibbles, BitVec.toNat_or, BitVec.toNat_shiftLeft, BitVec.toNat_ushiftRight, hlow, hfits,
    Nat.shiftRight_eq_div_pow, ← Nat.two_pow_add_eq_or_of_lt hhigh, Nat.mul_comm]

theorem swapNibbles_eq_ofNat (v : Byte) :
    swapNibbles v = BitVec.ofNat 8 (v.toNat % 16 * 16 + v.toNat / 16) := by
  rw [← toNat_swapNibbles, BitVec.ofNat_toNat, BitVec.setWidth_eq]

/-- 46_shift_rotate.md R188: "z = 1 only for v = 0x00". -/
theorem shiftFlags_swapNibbles (v : Byte) :
    shiftFlags (swapNibbles v) false = ⟨decide (v.toNat = 0), false, false, false⟩ := by
  have hz : v.toNat % 16 * 16 + v.toNat / 16 = 0 ↔ v.toNat = 0 := by omega
  rw [shiftFlags_of_toNat (toNat_swapNibbles v), decide_eq_decide.mpr hz]

/-! ### The accumulator rotates and the general ones (R189) -/

/-- With the same new A and the same bit shifted out, the flags differ only in z, which R152 to R155 force to 0 and R180
computes. -/
theorem differ_in_zero_only_of_exec {i j : Instr} {s : State} {res : Byte} {out : Bool}
    (hi : exec i s = .next { s with a := res, f := ⟨false, false, false, out⟩ })
    (hj : exec j s = .next ((s.write8 .a res).setFlags (shiftFlags res out))) (hwords : encode i ≠ encode j) :
    ∃ t u, exec i s = .next t ∧ exec j s = .next u ∧ t = { u with f := { u.f with z := false } } ∧
      (u.f.z = true ↔ u.a = 0#8) ∧ encode i ≠ encode j :=
  ⟨_, _, hi, hj, rfl, decide_eq_true_iff, hwords⟩

/-! ### The obligations -/

/-- Settles O18: each moves the byte to the right by one bit, and the bit that enters at the top is known as an
integer. -/
theorem rightShiftsAndRotatesOfAnyRegister : Obligations.RightShiftsAndRotatesOfAnyRegister := by
  intro r s
  refine ⟨⟨decode_descWord 0x16#8 0#3 r.code rfl rfl, ?_⟩, ⟨decode_descWord 0x17#8 0#3 r.code rfl rfl, ?_⟩,
    ⟨decode_descWord 0x19#8 0#3 r.code rfl rfl, ?_⟩, decode_descWord 0x1B#8 0#3 r.code rfl rfl, ?_⟩
  · rw [exec_srl, shiftFlags_shiftRight, shiftRight_eq_ofNat, Bool.toNat_false, Nat.zero_mul, Nat.zero_add]
  · rw [exec_rr, shiftFlags_shiftRight, shiftRight_eq_ofNat]
  · rw [exec_rrc, shiftFlags_shiftRight, shiftRight_eq_ofNat, toNat_getLsbD_zero]
  · rw [exec_sra, shiftFlags_shiftRight, shiftRight_eq_ofNat, toNat_getLsbD_seven]

/-- Settles O19: each moves the byte to the left by one bit, and the bit that enters at the bottom is known as an
integer. -/
theorem leftShiftsAndRotatesOfAnyRegister : Obligations.LeftShiftsAndRotatesOfAnyRegister := by
  intro r s
  refine ⟨⟨decode_descWord 0x18#8 0#3 r.code rfl rfl, ?_⟩, ⟨decode_descWord 0x1A#8 0#3 r.code rfl rfl, ?_⟩,
    decode_descWord 0x1C#8 0#3 r.code rfl rfl, ?_⟩
  · rw [exec_rl, shiftFlags_shiftLeft, shiftLeft_eq_ofNat]
  · rw [exec_rlc, shiftFlags_shiftLeft, shiftLeft_eq_ofNat, toNat_getLsbD_seven]
  · rw [exec_sla, shiftFlags_shiftLeft, shiftLeft_eq_ofNat, Bool.toNat_false, Nat.add_zero]

/-- Settles O21: in each pair the new A and the bit shifted out are the same, and the opcodes differ. -/
theorem accumulatorAndGeneralRotatesDifferInZeroOnly : Obligations.AccumulatorAndGeneralRotatesDifferInZeroOnly := by
  rintro s i j (⟨rfl, rfl⟩ | ⟨rfl, rfl⟩ | ⟨rfl, rfl⟩ | ⟨rfl, rfl⟩)
  · exact differ_in_zero_only_of_exec (exec_rra s) (exec_rr .a s) (by decide)
  · exact differ_in_zero_only_of_exec (exec_rla s) (exec_rl .a s) (by decide)
  · exact differ_in_zero_only_of_exec (exec_rrca s) (exec_rrc .a s) (by decide)
  · exact differ_in_zero_only_of_exec (exec_rrla s) (exec_rlc .a s) (by decide)

/-- Settles O20, from the byte with its nibbles exchanged. -/
theorem swapExchangesNibbles : Obligations.SwapExchangesNibbles := by
  intro r s
  refine ⟨decode_descWord 0x1D#8 0#3 r.code rfl rfl, ?_⟩
  rw [exec_swap, shiftFlags_swapNibbles, swapNibbles_eq_ofNat]

end Sys2Proof.Machine

end

section
/-! PROOFS of the family 60_exceptions.md: which commands are illegal (R221), the latch that one edge and a run of edges leave
(R222 to R225), and the strict step (R226). -/

namespace Sys2Proof.Machine

/-! ### Which commands are illegal (R221) -/

theorem regOf_eq_none_iff (sel : BitVec 3) : regOf sel = none ↔ sel = 7#3 := by
  revert sel
  decide

theorem viewOf_eq_none_iff (sel : BitVec 3) :
    viewOf sel = none ↔ sel = 3#3 ∨ sel = 5#3 ∨ sel = 6#3 ∨ sel = 7#3 := by
  revert sel
  decide

theorem illegalCause_idle {p : Pins} (hcmd : p.cmd = 0#2) : illegalCause p = none := by
  simp [illegalCause, hcmd]

theorem illegalCause_exec {p : Pins} (hcmd : p.cmd = 1#2) :
    illegalCause p = if legal p.desc = false then some Cause.illegalDescriptor.code else none := by
  simp [illegalCause, hcmd, Cause.code]

theorem illegalCause_wr8 {p : Pins} (hcmd : p.cmd = 2#2) :
    illegalCause p = if regOf p.wsel = none then some Cause.illegalWriteSelector.code else none := by
  simp [illegalCause, hcmd, Cause.code, regOf_eq_none_iff]

theorem illegalCause_wr16 {p : Pins} (hcmd : p.cmd = 3#2) :
    illegalCause p = if viewOf p.wsel = none then some Cause.illegalWriteSelector.code else none := by
  simp [illegalCause, hcmd, Cause.code, viewOf_eq_none_iff]

/-! ### The latch after one tuple, by the priority of R223 -/

theorem latchAfter_of_rst {p : Pins} (latch : Bool × BitVec 2) (hrst : p.rst = true) :
    latchAfter latch p = (false, 0#2) := by
  simp [latchAfter, hrst]

theorem latchAfter_of_faulted {p : Pins} {latch : Bool × BitVec 2} (hrst : p.rst = false) (hfault : latch.1 = true) :
    latchAfter latch p = latch := by
  simp [latchAfter, hrst, hfault]

theorem latchAfter_of_illegal {p : Pins} {latch : Bool × BitVec 2} {cause : BitVec 2} (hrst : p.rst = false)
    (hfault : latch.1 = false) (hcause : illegalCause p = some cause) : latchAfter latch p = (true, cause) := by
  simp [latchAfter, hrst, hfault, hcause]

theorem latchAfter_of_legal {p : Pins} {latch : Bool × BitVec 2} (hrst : p.rst = false)
    (hcause : illegalCause p = none) : latchAfter latch p = latch := by
  simp [latchAfter, hrst, hcause]

/-! ### What a command, an edge and a step leave of the latch and the inputs -/

/-- 60_exceptions.md R221, R222: a command that is illegal by its bits raises its cause and does nothing else, and any other
leaves the latch as it was. -/
theorem runCommand_cases (s : State) :
    (∃ cause : Cause, illegalCause s.pins = some cause.code ∧ runCommand s = .next (raiseIllegal cause s)) ∨
      (illegalCause s.pins = none ∧ ∃ t, runCommand s = .next t ∧ SameOutsideRegs s t) := by
  have hcmds : ∀ cmd : BitVec 2, cmd = 0#2 ∨ cmd = 1#2 ∨ cmd = 2#2 ∨ cmd = 3#2 := by decide
  obtain hcmd | hcmd | hcmd | hcmd := hcmds s.pins.cmd
  · exact .inr ⟨illegalCause_idle hcmd, s, runCommand_idle hcmd, rfl, rfl, rfl, rfl⟩
  · rw [runCommand_exec hcmd, cmdExec]
    cases hdecode : decode s.pins.desc with
    | ok i =>
      obtain ⟨hwf, -⟩ := (decode_eq_ok_iff_encode _ i).mp hdecode
      obtain ⟨t, ht, -, -, houtside⟩ := exec_completesWithin i s hwf
      have hlegal := (decoderAcceptsExactlyLegalWords s.pins.desc).mp ⟨i, hdecode⟩
      exact .inr ⟨by simp [illegalCause_exec hcmd, hlegal], t, ht, houtside⟩
    | error e =>
      have hillegal : legal s.pins.desc = false := by
        rw [← Bool.not_eq_true, ← decoderAcceptsExactlyLegalWords, hdecode]
        simp
      exact .inl ⟨.illegalDescriptor, by simp [illegalCause_exec hcmd, hillegal], rfl⟩
  · rw [runCommand_wr8 hcmd, cmdWr8]
    cases hsel : regOf s.pins.wsel with
    | some r => exact .inr ⟨by simp [illegalCause_wr8 hcmd, hsel], _, rfl, by simp [SameOutsideRegs]⟩
    | none => exact .inl ⟨.illegalWriteSelector, by simp [illegalCause_wr8 hcmd, hsel], rfl⟩
  · rw [runCommand_wr16 hcmd, cmdWr16]
    cases hsel : viewOf s.pins.wsel with
    | some p => exact .inr ⟨by simp [illegalCause_wr16 hcmd, hsel], _, rfl, by simp [SameOutsideRegs]⟩
    | none => exact .inl ⟨.illegalWriteSelector, by simp [illegalCause_wr16 hcmd, hsel], rfl⟩

theorem clockEdge_of_rst {s : State} (hrst : s.pins.rst = true) : clockEdge s = .next (resetBlock s) := by
  simp [clockEdge, hrst]

theorem clockEdge_of_faulted {s : State} (hrst : s.pins.rst = false) (hfault : s.fault = true) :
    clockEdge s = .next s := by
  simp [clockEdge, hrst, hfault]

theorem clockEdge_of_running {s : State} (hrst : s.pins.rst = false) (hfault : s.fault = false) :
    clockEdge s = runCommand s := by
  simp [clockEdge, hrst, hfault]

/-- 60_exceptions.md R222, R223: an edge answers from every state, its latch is computed from the inputs and the latch
before, and it leaves the host's inputs as they are. -/
theorem exists_clockEdge_latchAfter (s : State) :
    ∃ t, clockEdge s = .next t ∧ (t.fault, t.fcause) = latchAfter (s.fault, s.fcause) s.pins ∧
      t.pins = s.pins ∧ t.script = s.script := by
  cases hrst : s.pins.rst with
  | true => exact ⟨_, clockEdge_of_rst hrst, (latchAfter_of_rst _ hrst).symm, rfl, rfl⟩
  | false =>
    cases hfault : s.fault with
    | true => exact ⟨s, clockEdge_of_faulted hrst hfault, by rw [latchAfter_of_faulted hrst rfl, hfault], rfl, rfl⟩
    | false =>
      rw [clockEdge_of_running hrst hfault]
      obtain ⟨cause, hcause, hrun⟩ | ⟨hlegal, t, hrun, htfault, htfcause, hpins, hscript⟩ := runCommand_cases s
      · exact ⟨_, hrun, (latchAfter_of_illegal hrst rfl hcause).symm, rfl, rfl⟩
      · exact ⟨t, hrun, by rw [latchAfter_of_legal hrst hlegal, htfault, htfcause, hfault], hpins, hscript⟩

/-- The same of a step, after which the next tuple of the script is on the pins. -/
theorem exists_step_latchAfter (s : State) :
    ∃ t, step s = .next t ∧ (t.fault, t.fcause) = latchAfter (s.fault, s.fcause) s.pins ∧
      t.pins = s.script.headD Pins.idle ∧ t.script = s.script.tail := by
  obtain ⟨t, hedge, hlatch, -, hscript⟩ := exists_clockEdge_latchAfter s
  exact ⟨presentNext t, step_of_clockEdge hedge, by simpa using hlatch, by simp [hscript], by simp [hscript]⟩

theorem step_next_latchAfter {s t : State} (h : step s = .next t) :
    (t.fault, t.fcause) = latchAfter (s.fault, s.fcause) s.pins ∧
      t.pins = s.script.headD Pins.idle ∧ t.script = s.script.tail := by
  obtain ⟨u, hu, hlatch⟩ := exists_step_latchAfter s
  obtain rfl : u = t := Host.Outcome.next.inj (hu.symm.trans h)
  exact hlatch

/-! ### The strict step (R226) -/

theorem strictStep_of_step {s t : State} (h : step s = .next t) :
    strictStep s = if t.fault then .fault (.illegalCommand t.fcause) else .next t := by
  rw [strictStep, h]

/-! ### A run, tuple by tuple -/

theorem load_of_inputs {ins : List Pins} {s : State} (hpins : s.pins = ins.headD Pins.idle) (hscript : s.script = ins.tail) :
    load ins s = s := by
  obtain ⟨block, pins, script⟩ := s
  obtain rfl : pins = _ := hpins
  obtain rfl : script = _ := hscript
  cases ins <;> rfl

theorem core_run_succ_of_step {k : Nat} {s t : State} (h : step s = .next t) :
    Sys2Proof.core.run (k + 1) s = Sys2Proof.core.run k t := by
  simp only [Host.Core.run, Sys2Proof.core, h]

/-- 70_reset_and_hazards.md R259: one step for the first tuple, and then the run of the others. -/
theorem runInputs_cons {p : Pins} {ins : List Pins} {s t : State} (h : step (load (p :: ins) s) = .next t) :
    runInputs (p :: ins) s = runInputs ins t := by
  obtain ⟨-, hpins, hscript⟩ := step_next_latchAfter h
  have hloaded : load ins t = t := load_of_inputs hpins hscript
  rw [runInputs, List.length_cons, core_run_succ_of_step h, runInputs, hloaded]

/-! ### The obligations -/

/-- Settles O46: the step's latch decides the strict step's outcome. -/
theorem strictStepFaultsExactlyOnIllegalCommands : Obligations.StrictStepFaultsExactlyOnIllegalCommands := by
  refine ⟨fun s hrst hfault => ?_, fun s t hstrict => ?_⟩
  · obtain ⟨t, hstep, hlatch, -, -⟩ := exists_step_latchAfter s
    rw [strictStep_of_step hstep]
    refine ⟨fun cause hcause => ?_, fun hlegal => ⟨t, ?_, hstep⟩⟩
    · obtain ⟨htfault, htfcause⟩ := Prod.mk.inj (hlatch.trans (latchAfter_of_illegal hrst hfault hcause))
      rw [htfault, htfcause, if_pos rfl]
    · obtain ⟨htfault, -⟩ := Prod.mk.inj (hlatch.trans (latchAfter_of_legal hrst hlegal))
      rw [htfault, hfault, if_neg Bool.false_ne_true]
  · obtain ⟨u, hstep, -⟩ := exists_step_latchAfter s
    rw [strictStep_of_step hstep] at hstrict
    split at hstrict
    next => cases hstrict
    next hrunning =>
      obtain rfl : u = t := Host.Outcome.next.inj hstrict
      exact Bool.eq_false_of_not_eq_true hrunning

/-- Settles O52, by induction on the tuples: each step computes the latch as the fold does. -/
theorem faultLatchOfARunIsPredictable : Obligations.FaultLatchOfARunIsPredictable := by
  intro ins
  induction ins with
  | nil => exact fun s => ⟨load [] s, rfl, rfl⟩
  | cons p ins ih =>
    intro s
    obtain ⟨t, hstep, hlatch, -, -⟩ := exists_step_latchAfter (load (p :: ins) s)
    obtain ⟨u, hrun, hfold⟩ := ih t
    refine ⟨u, (runInputs_cons hstep).trans hrun, ?_⟩
    rw [hfold, hlatch]
    rfl

end Sys2Proof.Machine

end

section
/-! PROOFS of the family 70_reset_and_hazards.md: the step runs the operation on the pins (R255), an input outside its "used
when" row has no effect (30_encoding.md R70), and an IDLE cycle may come anywhere in a run (R257). -/

namespace Sys2Proof.Machine

/-! ### The operation on the pins -/

theorem clockEdge_of_exec {s : State} {i : Instr} (hrst : s.pins.rst = false) (hfault : s.fault = false)
    (hcmd : s.pins.cmd = 1#2) (hdecode : decode s.pins.desc = .ok i) : clockEdge s = exec i s := by
  rw [clockEdge_of_running hrst hfault, runCommand_exec hcmd, cmdExec, hdecode]

/-- 20_memory.md R52: the number of a descriptor is that of its 16 bits. -/
theorem tableWord_toNat (w : Word) : tableWord 16 w.toNat = w := by
  rw [tableWord, Nat.mod_eq_of_lt w.isLt, BitVec.ofNat_toNat, BitVec.setWidth_eq]

/-! ### Outcomes with the same block -/

/-- Both outcomes are next states, whose blocks are the same. -/
def SameBlock (o o' : Host.Outcome State Fault Refusal) : Prop :=
  ∃ t u, o = .next t ∧ o' = .next u ∧ t.toBlock = u.toBlock

section
variable {s s' : State} (hblock : s.toBlock = s'.toBlock)
include hblock

theorem setFlags_toBlock_congr (f : Flags) : (s.setFlags f).toBlock = (s'.setFlags f).toBlock := by
  simp [State.setFlags, hblock]

theorem write8_toBlock_congr (r : Reg) (v : Byte) : (s.write8 r v).toBlock = (s'.write8 r v).toBlock := by
  cases r <;> simp [State.write8, hblock]

theorem write16_toBlock_congr (p : View) (w : Word) : (s.write16 p w).toBlock = (s'.write16 p w).toBlock := by
  cases p <;> simp [State.write16, hblock]

theorem raiseIllegal_toBlock_congr (cause : Cause) :
    (raiseIllegal cause s).toBlock = (raiseIllegal cause s').toBlock := by
  simp [raiseIllegal, hblock]

theorem read8_congr (r : Reg) : s.read8 r = s'.read8 r := by
  cases r <;> simp [State.read8, hblock]

theorem read16_congr (p : View) : s.read16 p = s'.read16 p := by
  cases p <;> simp [State.read16, hblock]

theorem writeBoth_sameBlock {r : Reg} {res res' : Byte} {f f' : Flags} (hres : res = res') (hf : f = f') :
    SameBlock (writeBoth r res f s) (writeBoth r res' f' s') := by
  subst hres hf
  exact ⟨_, _, rfl, rfl, setFlags_toBlock_congr (write8_toBlock_congr hblock r res) f⟩

theorem writeFlags_sameBlock {f f' : Flags} (hf : f = f') : SameBlock (writeFlags f s) (writeFlags f' s') := by
  subst hf
  exact ⟨_, _, rfl, rfl, setFlags_toBlock_congr hblock f⟩

theorem writeReg_sameBlock {r : Reg} {res res' : Byte} (hres : res = res') :
    SameBlock (writeReg r res s) (writeReg r res' s') := by
  subst hres
  exact ⟨_, _, rfl, rfl, write8_toBlock_congr hblock r res⟩

theorem raiseIllegal_sameBlock (cause : Cause) :
    SameBlock (.next (raiseIllegal cause s)) (.next (raiseIllegal cause s')) :=
  ⟨_, _, rfl, rfl, raiseIllegal_toBlock_congr hblock cause⟩

/-- 41_addhl.md R120: the pin `sp_in` is the operand for SP alone. -/
theorem pairOperand_congr {p : Pair} (hsp : p = .sp → s.pins.spIn = s'.pins.spIn) :
    pairOperand s p = pairOperand s' p := by
  cases p with
  | bc | de | hl => exact congrArg some (read16_congr hblock _)
  | sp => exact congrArg some (hsp rfl)
  | af => rfl

theorem execAddhl_sameBlock {p : Pair} (hsp : p = .sp → s.pins.spIn = s'.pins.spIn) :
    SameBlock (execAddhl p s) (execAddhl p s') := by
  rw [execAddhl, execAddhl, pairOperand_congr hblock hsp, read16_congr hblock]
  cases pairOperand s' p with
  | some v => exact ⟨_, _, rfl, rfl, setFlags_toBlock_congr (write16_toBlock_congr hblock _ _) _⟩
  | none => exact raiseIllegal_sameBlock hblock _

/-- An operation reads the block, and of the pins only `sp_in`, for ADDHL(SP). -/
theorem exec_sameBlock {i : Instr} (hsp : i = .addhl .sp → s.pins.spIn = s'.pins.spIn) :
    SameBlock (exec i s) (exec i s') := by
  have ha : s.a = s'.a := congrArg Block.a hblock
  have hf : s.f = s'.f := congrArg Block.f hblock
  cases i with
  | add r | adc r | sub r | sbc r | and r | or r | xor r =>
    have hr := read8_congr hblock r
    exact writeBoth_sameBlock hblock (by simp only [ha, hr, hf]) (by simp only [ha, hr, hf])
  | rra | rla | rrca | rrla | cpl | daa => exact writeBoth_sameBlock hblock (by simp only [ha, hf]) (by simp only [ha, hf])
  | inc r | dec r | srl r | rr r | rl r | rrc r | rlc r | sra r | sla r | swap r =>
    have hr := read8_congr hblock r
    exact writeBoth_sameBlock hblock (by simp only [hr, hf]) (by simp only [hr, hf])
  | addhl p => exact execAddhl_sameBlock hblock fun hp => hsp (congrArg Instr.addhl hp)
  | cp r => exact writeFlags_sameBlock hblock (by rw [ha, read8_congr hblock r])
  | ccf | scf => exact writeFlags_sameBlock hblock (by rw [hf])
  | bit r n => exact writeFlags_sameBlock hblock (by rw [read8_congr hblock r, hf])
  | resetBit r n | setBit r n => exact writeReg_sameBlock hblock (by rw [read8_congr hblock r])

end

/-! ### Which pins a command uses (30_encoding.md R70) -/

/-- The two inputs have the same reset and command, and agree on each pin that the command uses. -/
structure Pins.AgreeWhereUsed (p q : Pins) : Prop where
  rst : p.rst = q.rst
  cmd : p.cmd = q.cmd
  desc : p.cmd = 1#2 → p.desc = q.desc
  wsel : p.cmd = 2#2 ∨ p.cmd = 3#2 → p.wsel = q.wsel
  lowData : p.cmd = 2#2 → loByte p.wdata = loByte q.wdata
  wdata : p.cmd = 3#2 → p.wdata = q.wdata
  spIn : p.cmd = 1#2 → decode p.desc = .ok (.addhl .sp) → p.spIn = q.spIn

theorem Pins.AgreeWhereUsed.of_eq {p q : Pins} (h : p = q) : p.AgreeWhereUsed q := by
  subst h
  exact ⟨rfl, rfl, fun _ => rfl, fun _ => rfl, fun _ => rfl, fun _ => rfl, fun _ _ => rfl⟩

theorem loByte_eq_of_toNat_mod {v w : Word} (h : v.toNat % 256 = w.toNat % 256) : loByte v = loByte w := by
  apply BitVec.eq_of_toNat_eq
  simpa only [loByte, BitVec.extractLsb'_toNat, Nat.shiftRight_zero] using h

section
variable {s s' : State} (hblock : s.toBlock = s'.toBlock) (hpins : s.pins.AgreeWhereUsed s'.pins)
include hblock hpins

theorem cmdExec_sameBlock (hcmd : s.pins.cmd = 1#2) : SameBlock (cmdExec s) (cmdExec s') := by
  rw [cmdExec, cmdExec, ← hpins.desc hcmd]
  cases hdecode : decode s.pins.desc with
  | ok i => exact exec_sameBlock hblock fun hi => hpins.spIn hcmd (hi ▸ hdecode)
  | error e => exact raiseIllegal_sameBlock hblock _

theorem cmdWr8_sameBlock (hcmd : s.pins.cmd = 2#2) : SameBlock (cmdWr8 s) (cmdWr8 s') := by
  rw [cmdWr8, cmdWr8, ← hpins.wsel (.inl hcmd)]
  cases regOf s.pins.wsel with
  | some r => exact writeReg_sameBlock hblock (hpins.lowData hcmd)
  | none => exact raiseIllegal_sameBlock hblock _

theorem cmdWr16_sameBlock (hcmd : s.pins.cmd = 3#2) : SameBlock (cmdWr16 s) (cmdWr16 s') := by
  rw [cmdWr16, cmdWr16, ← hpins.wsel (.inr hcmd), ← hpins.wdata hcmd]
  cases viewOf s.pins.wsel with
  | some p => exact ⟨_, _, rfl, rfl, write16_toBlock_congr hblock p _⟩
  | none => exact raiseIllegal_sameBlock hblock _

theorem runCommand_sameBlock : SameBlock (runCommand s) (runCommand s') := by
  have hcmds : ∀ cmd : BitVec 2, cmd = 0#2 ∨ cmd = 1#2 ∨ cmd = 2#2 ∨ cmd = 3#2 := by decide
  have hsame := hpins.cmd
  obtain hcmd | hcmd | hcmd | hcmd := hcmds s.pins.cmd
  · rw [runCommand_idle hcmd, runCommand_idle (hsame ▸ hcmd)]
    exact ⟨s, s', rfl, rfl, hblock⟩
  · rw [runCommand_exec hcmd, runCommand_exec (hsame ▸ hcmd)]
    exact cmdExec_sameBlock hblock hpins hcmd
  · rw [runCommand_wr8 hcmd, runCommand_wr8 (hsame ▸ hcmd)]
    exact cmdWr8_sameBlock hblock hpins hcmd
  · rw [runCommand_wr16 hcmd, runCommand_wr16 (hsame ▸ hcmd)]
    exact cmdWr16_sameBlock hblock hpins hcmd

theorem clockEdge_sameBlock : SameBlock (clockEdge s) (clockEdge s') := by
  have hsame := hpins.rst
  have hlatch : s.fault = s'.fault := congrArg Block.fault hblock
  cases hrst : s.pins.rst with
  | true =>
    rw [clockEdge_of_rst hrst, clockEdge_of_rst (hsame ▸ hrst)]
    exact ⟨_, _, rfl, rfl, rfl⟩
  | false =>
    cases hfault : s.fault with
    | true =>
      rw [clockEdge_of_faulted hrst hfault, clockEdge_of_faulted (hsame ▸ hrst) (hlatch ▸ hfault)]
      exact ⟨s, s', rfl, rfl, hblock⟩
    | false =>
      rw [clockEdge_of_running hrst hfault, clockEdge_of_running (hsame ▸ hrst) (hlatch ▸ hfault)]
      exact runCommand_sameBlock hblock hpins

/-- 70_reset_and_hazards.md R255: the block after a step is a function of the block before and the pins in use. -/
theorem step_sameBlock : SameBlock (step s) (step s') := by
  obtain ⟨t, u, ht, hu, htu⟩ := clockEdge_sameBlock hblock hpins
  exact ⟨presentNext t, presentNext u, step_of_clockEdge ht, step_of_clockEdge hu, by simpa using htu⟩

end

/-! ### Runs (R257) -/

@[simp] theorem load_toBlock (ins : List Pins) (s : State) : (load ins s).toBlock = s.toBlock := by
  cases ins <;> rfl

/-- A run replaces the inputs, so of the state it starts from it reads the block only. -/
theorem runInputs_congr {s s' : State} (hblock : s.toBlock = s'.toBlock) (ins : List Pins) :
    runInputs ins s = runInputs ins s' := by
  have hload : load ins s = load ins s' := by cases ins <;> simp [load, hblock]
  rw [runInputs, runInputs, hload]

/-- Two runs that begin with the same tuple agree when their rests agree from every state. -/
theorem runInputs_cons_congr {ins ins' : List Pins} (hrest : ∀ t, runInputs ins t = runInputs ins' t) (p : Pins)
    (s : State) : runInputs (p :: ins) s = runInputs (p :: ins') s := by
  obtain ⟨t, u, ht, hu, htu⟩ : SameBlock (step (load (p :: ins) s)) (step (load (p :: ins') s)) :=
    step_sameBlock (by simp) (.of_eq rfl)
  rw [runInputs_cons ht, runInputs_cons hu, hrest t, runInputs_congr htu]

/-- 47_host_access.md R200: an edge with IDLE leaves the state, whether the block runs or is frozen. -/
theorem clockEdge_of_idle {s : State} (hrst : s.pins.rst = false) (hcmd : s.pins.cmd = 0#2) :
    clockEdge s = .next s := by
  cases hfault : s.fault with
  | true => exact clockEdge_of_faulted hrst hfault
  | false => rw [clockEdge_of_running hrst hfault, runCommand_idle hcmd]

theorem runInputs_idle_cons {p : Pins} (hrst : p.rst = false) (hcmd : p.cmd = 0#2) (ins : List Pins) (s : State) :
    runInputs (p :: ins) s = runInputs ins s := by
  have hedge : clockEdge (load (p :: ins) s) = .next (load (p :: ins) s) := clockEdge_of_idle hrst hcmd
  rw [runInputs_cons (step_of_clockEdge hedge)]
  exact runInputs_congr (by simp) ins

theorem runInputs_insert_idle {p : Pins} (hrst : p.rst = false) (hcmd : p.cmd = 0#2) (xs ys : List Pins) (s : State) :
    runInputs (xs ++ p :: ys) s = runInputs (xs ++ ys) s := by
  induction xs generalizing s with
  | nil => exact runInputs_idle_cons hrst hcmd ys s
  | cons x xs ih => exact runInputs_cons_congr ih x s

/-! ### The obligations -/

/-- Settles O34: the placed word is on the pins, and a well-formed operation completes. -/
theorem placedWordRunsAtTheNextStep : Obligations.PlacedWordRunsAtTheNextStep := by
  intro s i hwf hfault
  have hdecode : decode (tableWord 16 (encode i).toNat) = .ok i := by
    rw [tableWord_toNat, decodeOfEncodeIsTheOperation i hwf]
  obtain ⟨t, ht, -⟩ := exec_completesWithin i (s.withFetchWord 16 (encode i).toNat) hwf
  refine ⟨by rw [decodeTableWord, hdecode]; rfl, rfl, t, ht, step_of_clockEdge ?_⟩
  rw [clockEdge_of_exec (s := s.withFetchWord 16 _) rfl hfault rfl hdecode, ht]

/-- Settles O45, from what a step leaves of the latch and the inputs. -/
theorem stepAlwaysAnswersNext : Obligations.StepAlwaysAnswersNext := by
  intro s
  obtain ⟨t, hstep, -, hpins, hscript⟩ := exists_step_latchAfter s
  exact ⟨t, hstep, hpins, hscript⟩

/-- Settles O49: the pins agree where the command uses them, and 0x0A03 is the only word of ADDHL(SP). -/
theorem unusedInputsHaveNoEffect : Obligations.UnusedInputsHaveNoEffect := by
  intro s p hrst hcmd hdesc hwsel hlow hwdata hsp
  have hpins : s.pins.AgreeWhereUsed p :=
    { rst := hrst.symm
      cmd := hcmd.symm
      desc := fun h => (hdesc h).symm
      wsel := fun h => (hwsel h).symm
      lowData := fun h => loByte_eq_of_toNat_mod (hlow h).symm
      wdata := fun h => (hwdata h).symm
      spIn := fun h hdecode =>
        have hword : encode (.addhl .sp) = s.pins.desc := ((decode_eq_ok_iff_encode _ _).mp hdecode).2
        (hsp h hword.symm).symm }
  exact step_sameBlock (s' := { s with pins := p }) rfl hpins

/-- Settles O50: the two runs are the same, by induction on the tuples before the IDLE one. -/
theorem idleCyclesMayBeInsertedAnywhere : Obligations.IdleCyclesMayBeInsertedAnywhere := by
  intro xs ys p s hrst hcmd
  obtain ⟨t, hrun, -⟩ := faultLatchOfARunIsPredictable (xs ++ ys) s
  exact ⟨t, t, (runInputs_insert_idle hrst hcmd xs ys s).trans hrun, hrun, rfl⟩

/-- Settles O33, by the priority of one edge: no reset, no fault, and EXEC on the pins. -/
theorem stepRunsDecodedOperation : Obligations.StepRunsDecodedOperation := by
  intro s i hrst hfault hcmd hdecode
  rw [← clockEdge_of_exec hrst hfault hcmd hdecode]
  rfl

end Sys2Proof.Machine

end

section
/-! PROOFS of statements about the whole machine, over 10_state.md, 47_host_access.md, 60_exceptions.md and
70_reset_and_hazards.md: the agreement of FAULT and FCAUSE (R34), the outputs (R35), what one edge does with each host command
(R200 to R202, R221), the frozen state (R224, R225) and reset (R37, R250). -/

namespace Sys2Proof.Machine

/-! ### FAULT and FCAUSE agree (10_state.md R34) -/

theorem faultWellFormed_of_running {s : State} (hfault : s.fault = false) (hfcause : s.fcause = 0#2) :
    FaultWellFormed s := by
  simp [FaultWellFormed, hfault, hfcause]

theorem faultWellFormed_congr {s t : State} (hfault : t.fault = s.fault) (hfcause : t.fcause = s.fcause) :
    FaultWellFormed t ↔ FaultWellFormed s := by
  rw [FaultWellFormed, FaultWellFormed, hfault, hfcause]

/-- 60_exceptions.md R221: the codes of the two causes are neither 0 nor 3. -/
theorem faultWellFormed_raiseIllegal (cause : Cause) (s : State) : FaultWellFormed (raiseIllegal cause s) := by
  cases cause <;> simp [FaultWellFormed, Cause.code]

theorem faultWellFormed_resetBlock (s : State) : FaultWellFormed (resetBlock s) :=
  faultWellFormed_of_running rfl rfl

theorem runCommand_keeps_faultWellFormed {s t : State} (hs : FaultWellFormed s) (h : runCommand s = .next t) :
    FaultWellFormed t := by
  obtain ⟨cause, -, hrun⟩ | ⟨-, u, hrun, hfault, hfcause, -, -⟩ := runCommand_cases s
  · obtain rfl := Host.Outcome.next.inj (hrun.symm.trans h)
    exact faultWellFormed_raiseIllegal cause s
  · obtain rfl := Host.Outcome.next.inj (hrun.symm.trans h)
    exact (faultWellFormed_congr hfault hfcause).mpr hs

theorem clockEdge_keeps_faultWellFormed {s t : State} (hs : FaultWellFormed s) (h : clockEdge s = .next t) :
    FaultWellFormed t := by
  obtain ⟨-, rfl⟩ | ⟨-, -, rfl⟩ | ⟨-, -, hrun⟩ := clockEdge_cases h
  · exact faultWellFormed_resetBlock s
  · exact hs
  · exact runCommand_keeps_faultWellFormed hs hrun

/-- Settles O43, by the cases of one edge: reset, frozen, or a command, which is illegal or leaves the latch. -/
theorem stepKeepsFaultAndCauseInAgreement : Obligations.StepKeepsFaultAndCauseInAgreement := by
  intro s u hs h
  obtain ⟨t, hedge, rfl⟩ := step_next h
  exact (faultWellFormed_congr (by simp) (by simp)).mpr (clockEdge_keeps_faultWellFormed hs hedge)

/-- Settles O44: the latch is clear at reset. -/
theorem resetHasFaultAndCauseInAgreement : Obligations.ResetHasFaultAndCauseInAgreement :=
  faultWellFormed_of_running rfl rfl

/-! ### A step by its edge's block -/

theorem exists_step_toBlock_of_clockEdge {s t : State} {b : Block} (h : clockEdge s = .next t) (hb : t.toBlock = b) :
    ∃ u, step s = .next u ∧ u.toBlock = b :=
  ⟨presentNext t, step_of_clockEdge h, (presentNext_toBlock t).trans hb⟩

/-! ### Illegal commands (60_exceptions.md R221) -/

/-- A command that is illegal by its bits latches its code, and the rest of the block is kept. -/
theorem exists_step_of_illegalCause {s : State} {code : BitVec 2} (hrst : s.pins.rst = false) (hfault : s.fault = false)
    (hcause : illegalCause s.pins = some code) :
    ∃ t, step s = .next t ∧ t.toBlock = { s.toBlock with fault := true, fcause := code } := by
  obtain ⟨cause, hcode, hrun⟩ | ⟨hlegal, -⟩ := runCommand_cases s
  · obtain rfl : cause.code = code := Option.some.inj (hcode.symm.trans hcause)
    exact exists_step_toBlock_of_clockEdge ((clockEdge_of_running hrst hfault).trans hrun) rfl
  · cases hcause.symm.trans hlegal

/-- Settles O35: EXEC of an illegal word is illegal with cause 1. -/
theorem illegalDescriptorLatchesCause1 : Obligations.IllegalDescriptorLatchesCause1 := by
  intro s hrst hfault hcmd hillegal
  refine exists_step_of_illegalCause hrst hfault ?_
  rw [illegalCause_exec hcmd, if_pos hillegal]
  rfl

/-- Settles O36: a write whose selector names no register or view is illegal with cause 2. -/
theorem illegalWriteSelectorLatchesCause2 : Obligations.IllegalWriteSelectorLatchesCause2 := by
  rintro s hrst hfault (⟨hcmd, hsel⟩ | ⟨hcmd, hsel⟩)
  · refine exists_step_of_illegalCause hrst hfault ?_
    rw [illegalCause_wr8 hcmd, if_pos ((regOf_eq_none_iff _).mpr hsel)]
    rfl
  · refine exists_step_of_illegalCause hrst hfault ?_
    rw [illegalCause_wr16 hcmd, if_pos ((viewOf_eq_none_iff _).mpr hsel)]
    rfl

/-! ### The two halves of the write data (20_memory.md R52) -/

theorem toNat_loByte (w : Word) : (loByte w).toNat = w.toNat % 256 := by
  rw [loByte, BitVec.extractLsb'_toNat, Nat.shiftRight_zero]

theorem loByte_eq_ofNat (w : Word) : loByte w = BitVec.ofNat 8 (w.toNat % 256) := by
  rw [← toNat_loByte, BitVec.ofNat_toNat, BitVec.setWidth_eq]

theorem hiByte_eq_ofNat (w : Word) : hiByte w = BitVec.ofNat 8 (w.toNat / 256) := by
  rw [hiByte, BitVec.extractLsb', Nat.shiftRight_eq_div_pow]

theorem fromByte_loByte (w : Word) :
    Flags.fromByte (loByte w) = ⟨w.getLsbD 7, w.getLsbD 6, w.getLsbD 5, w.getLsbD 4⟩ := by
  simp [Flags.fromByte, loByte]

/-! ### The write commands (47_host_access.md R201, R202) -/

theorem clockEdge_of_wr8 {s : State} {r : Reg} (hrst : s.pins.rst = false) (hfault : s.fault = false)
    (hcmd : s.pins.cmd = 2#2) (hsel : s.pins.wsel = r.code) :
    clockEdge s = writeReg r (loByte s.pins.wdata) s := by
  rw [clockEdge_of_running hrst hfault, runCommand_wr8 hcmd, cmdWr8, (regOf_eq_some_iff _ r).mpr hsel]

theorem viewOf_code (p : View) : viewOf p.code = some p := by
  cases p <;> rfl

theorem clockEdge_of_wr16 {s : State} {p : View} (hrst : s.pins.rst = false) (hfault : s.fault = false)
    (hcmd : s.pins.cmd = 3#2) (hsel : s.pins.wsel = p.code) :
    clockEdge s = .next (s.write16 p s.pins.wdata) := by
  rw [clockEdge_of_running hrst hfault, runCommand_wr16 hcmd, cmdWr16, hsel, viewOf_code]

/-- Settles O37, by what a write of one register leaves. -/
theorem wr8WritesOneRegister : Obligations.Wr8WritesOneRegister := by
  intro s r hrst hfault hcmd hsel
  have hedge := clockEdge_of_wr8 hrst hfault hcmd hsel
  obtain ⟨hr, hf, hregs, htfault, htfcause, -, -⟩ :=
    writeReg_next (rfl : writeReg r (loByte s.pins.wdata) s = .next _)
  refine ⟨_, step_of_clockEdge hedge, ?_⟩
  simp only [read8_presentNext, presentNext_f, presentNext_fault, presentNext_fcause]
  exact ⟨by rw [hr, toNat_loByte], hregs, hf, htfault.trans hfault, htfcause⟩

/-- Settles O38, from the four writes of a view. -/
theorem wr16WritesOnePair : Obligations.Wr16WritesOnePair := by
  intro s hrst hfault hcmd hi lo effect
  have hhi : hiByte s.pins.wdata = hi := hiByte_eq_ofNat _
  have hlo : loByte s.pins.wdata = lo := loByte_eq_ofNat _
  have hstep (p : View) (hsel : s.pins.wsel = p.code) : effect (s.write16 p s.pins.wdata).toBlock :=
    exists_step_toBlock_of_clockEdge (clockEdge_of_wr16 hrst hfault hcmd hsel) rfl
  rw [← hhi, ← hlo, ← fromByte_loByte]
  exact ⟨hstep .bc, hstep .de, hstep .hl, hstep .af⟩

/-- Settles O39: an edge with IDLE leaves the state. -/
theorem idleChangesNothing : Obligations.IdleChangesNothing := fun _ hrst hcmd =>
  exists_step_toBlock_of_clockEdge (clockEdge_of_idle hrst hcmd) rfl

/-! ### Runs that keep a block (60_exceptions.md R224, 70_reset_and_hazards.md R250) -/

/-- A step with the tuple `p` on the pins leaves the block `b` as it is. -/
def StepKeepsBlock (b : Block) (p : Pins) : Prop :=
  ∀ s : State, s.toBlock = b → s.pins = p → ∃ t, step s = .next t ∧ t.toBlock = b

/-- A block that each tuple's step keeps is the block after the run. -/
theorem exists_runInputs_of_stepKeepsBlock {b : Block} {ins : List Pins} (hkeep : ∀ p ∈ ins, StepKeepsBlock b p) :
    ∀ s : State, s.toBlock = b → ∃ t, runInputs ins s = .next t ∧ t.toBlock = b := by
  induction ins with
  | nil => exact fun s hs => ⟨load [] s, rfl, hs⟩
  | cons p ins ih =>
    intro s hs
    obtain ⟨hp, hins⟩ := List.forall_mem_cons.mp hkeep
    obtain ⟨t, hstep, ht⟩ := hp (load (p :: ins) s) hs rfl
    rw [runInputs_cons hstep]
    exact ih hins t ht

theorem stepKeepsBlock_of_faulted {b : Block} {p : Pins} (hfault : b.fault = true) (hrst : p.rst = false) :
    StepKeepsBlock b p := by
  rintro s rfl rfl
  exact exists_step_toBlock_of_clockEdge (clockEdge_of_faulted hrst hfault) rfl

/-- 70_reset_and_hazards.md R250: a step with `rst` high leaves the reset block, whatever was before. -/
theorem exists_step_of_rst {s : State} (hrst : s.pins.rst = true) :
    ∃ t, step s = .next t ∧ t.toBlock = Block.reset :=
  exists_step_toBlock_of_clockEdge (clockEdge_of_rst hrst) rfl

theorem stepKeepsBlock_reset {p : Pins} (hrst : p.rst = true) : StepKeepsBlock Block.reset p := by
  rintro s - rfl
  exact exists_step_of_rst hrst

/-- A run whose first tuple has `rst` high is the run of the others from the reset state. -/
theorem runInputs_rst_cons {p : Pins} (hrst : p.rst = true) (ins : List Pins) (s : State) :
    runInputs (p :: ins) s = runInputs ins State.reset := by
  obtain ⟨t, hstep, ht⟩ := exists_step_of_rst (s := load (p :: ins) s) hrst
  rw [runInputs_cons hstep]
  exact runInputs_congr ht ins

/-- Settles O40: a faulted block is kept by every step without `rst`. -/
theorem faultedBlockIsFrozenUntilReset : Obligations.FaultedBlockIsFrozenUntilReset := fun _ s hfault hrst =>
  exists_runInputs_of_stepKeepsBlock (fun p hp => stepKeepsBlock_of_faulted hfault (hrst p hp)) s rfl

/-- Settles O51: after the first tuple both runs are the same one, from the reset state. -/
theorem runFromResetForgetsTheStateBefore : Obligations.RunFromResetForgetsTheStateBefore := by
  intro p ins s s' hrst
  obtain ⟨t, hrun, -⟩ := faultLatchOfARunIsPredictable ins State.reset
  exact ⟨t, t, (runInputs_rst_cons hrst ins s).trans hrun, (runInputs_rst_cons hrst ins s').trans hrun, rfl⟩

/-! ### The reset state and the outputs -/

theorem read8_reset (r : Reg) : State.reset.read8 r = 0x00#8 := by
  cases r <;> rfl

/-- Settles O42, field by field. -/
theorem resetStateIsAllZero : Obligations.ResetStateIsAllZero :=
  ⟨read8_reset, rfl, rfl, rfl, rfl, rfl⟩

/-- Settles O41: the first tuple gives the reset block, and the others keep it. -/
theorem resetClearsEverythingFromAnyState : Obligations.ResetClearsEverythingFromAnyState := by
  intro ins s hne hrst
  obtain ⟨p, ins, rfl⟩ := List.exists_cons_of_ne_nil hne
  obtain ⟨hp, hins⟩ := List.forall_mem_cons.mp hrst
  obtain ⟨t, hrun, hblock⟩ := exists_runInputs_of_stepKeepsBlock (fun q hq => stepKeepsBlock_reset (hins q hq))
    State.reset rfl
  refine ⟨t, (runInputs_rst_cons hp ins s).trans hrun, fun r => ?_, congrArg Block.f hblock,
    congrArg Block.fault hblock, congrArg Block.fcause hblock⟩
  rw [read8_congr (s' := State.reset) hblock, read8_reset]

theorem read8_outputs (s : State) (r : Reg) : s.outputs.read8 r = s.read8 r := by
  cases r <;> rfl

theorem read16_outputs (s : State) (p : View) : s.outputs.read16 p = s.read16 p := by
  cases p <;> rfl

/-- Settles O56: each output is the field it shows. -/
theorem outputsShowTheState : Obligations.OutputsShowTheState := fun s =>
  ⟨read8_outputs s, read16_outputs s, rfl, rfl, rfl, rfl⟩

end Sys2Proof.Machine

end

section
/-! PROOFS of 40_add_sub.md R104: the word, result and flags of SBC, with the half-carry's borrow side of 92_eei_decisions.md
D16. -/

namespace Sys2Proof.Machine

/-- Settles O4, from the difference with the old carry as the borrow-in. -/
theorem sbcSubtractsOldCarry : Obligations.SbcSubtractsOldCarry := by
  intro r s
  refine ⟨decode_descWord 0x03#8 0#3 r.code rfl rfl, ?_⟩
  rw [exec_sbc, subByte_eq_ofNat, subFlags_eq]
  rfl

end Sys2Proof.Machine

end

section
/-! PROOFS of the corner cases of 45_bit_ops.md: SET and RESET of one bit, one after the other, and BIT after them. -/

namespace Sys2Proof.Machine

/-- Two bytes with the same eight bits are the same. -/
theorem byte_eq_of_bits {v w : Byte} (h : ∀ k : BitIndex, v.getLsbD k.val = w.getLsbD k.val) : v = w :=
  BitVec.eq_of_getLsbD_eq fun k hk => h ⟨k, hk⟩

/-! ### The mask, twice on one byte -/

theorem or_bitMask_and_not_bitMask (v : Byte) (n : BitIndex) :
    (v ||| bitMask n) &&& ~~~bitMask n = v &&& ~~~bitMask n := by
  refine byte_eq_of_bits fun k => ?_
  rw [getLsbD_and_not_bitMask, getLsbD_and_not_bitMask, getLsbD_or_bitMask]
  split <;> rfl

theorem and_not_bitMask_or_bitMask (v : Byte) (n : BitIndex) :
    (v &&& ~~~bitMask n) ||| bitMask n = v ||| bitMask n := by
  refine byte_eq_of_bits fun k => ?_
  rw [getLsbD_or_bitMask, getLsbD_or_bitMask, getLsbD_and_not_bitMask]
  split <;> rfl

theorem or_bitMask_of_set {v : Byte} {n : BitIndex} (hset : v.getLsbD n.val = true) : v ||| bitMask n = v := by
  refine byte_eq_of_bits fun k => ?_
  rw [getLsbD_or_bitMask]
  split
  next hk => rw [hk, hset]
  next => rfl

theorem and_not_bitMask_of_clear {v : Byte} {n : BitIndex} (hclear : v.getLsbD n.val = false) :
    v &&& ~~~bitMask n = v := by
  refine byte_eq_of_bits fun k => ?_
  rw [getLsbD_and_not_bitMask]
  split
  next hk => rw [hk, hclear]
  next => rfl

/-! ### SET and RESET, one after the other -/

theorem exec_setBit_write8 (r : Reg) (n : BitIndex) (s : State) (v : Byte) :
    exec (.setBit r n) (s.write8 r v) = .next (s.write8 r (v ||| bitMask n)) := by
  rw [exec_setBit, read8_write8_same, write8_write8]

theorem exec_resetBit_write8 (r : Reg) (n : BitIndex) (s : State) (v : Byte) :
    exec (.resetBit r n) (s.write8 r v) = .next (s.write8 r (v &&& ~~~bitMask n)) := by
  rw [exec_resetBit, read8_write8_same, write8_write8]

theorem execList_setBit_resetBit (r : Reg) (n : BitIndex) (s : State) :
    execList [.setBit r n, .resetBit r n] s = exec (.resetBit r n) s := by
  rw [execList_cons (exec_setBit r n s), execList_cons (exec_resetBit_write8 r n s _), or_bitMask_and_not_bitMask]
  rfl

theorem execList_resetBit_setBit (r : Reg) (n : BitIndex) (s : State) :
    execList [.resetBit r n, .setBit r n] s = exec (.setBit r n) s := by
  rw [execList_cons (exec_resetBit r n s), execList_cons (exec_setBit_write8 r n s _), and_not_bitMask_or_bitMask]
  rfl

/-- BIT after a write of the register tells the bit of the written byte. -/
theorem exists_execList_bit {i : Instr} {r : Reg} {s : State} {v : Byte} (h : exec i s = .next (s.write8 r v))
    (n : BitIndex) : ∃ t, execList [i, .bit r n] s = .next t ∧ t.f.z = !v.getLsbD n.val :=
  ⟨_, (execList_cons h _).trans (execList_cons (exec_bit r n _) _), by simp [bitFlags_eq]⟩

/-- Settles O25: the mask decides its bit whatever the bit was, and keeps a byte that already has it. -/
theorem lastOfSetAndResetDecidesTheBit : Obligations.LastOfSetAndResetDecidesTheBit := by
  intro r n s
  refine ⟨execList_setBit_resetBit r n s, execList_resetBit_setBit r n s, fun hset => ?_, fun hclear => ?_, ?_, ?_⟩
  · rw [exec_setBit, or_bitMask_of_set hset, write8_read8]
  · rw [exec_resetBit, and_not_bitMask_of_clear hclear, write8_read8]
  · have hbit := exists_execList_bit (exec_setBit r n s) n
    rwa [getLsbD_or_bitMask, if_pos rfl] at hbit
  · have hbit := exists_execList_bit (exec_resetBit r n s) n
    rwa [getLsbD_and_not_bitMask, if_pos rfl] at hbit

end Sys2Proof.Machine

end

section
/-! PROOFS of the corner cases of 44_flag_acc_ops.md and 46_shift_rotate.md: how many times a rotate, SWAP or CPL restores what it
moved. A rotate permutes the bits of the byte, or of the byte and the carry, and so does its repetition. -/

namespace Sys2Proof.Machine

/-! ### Moves of bits -/

/-- `move` puts at every place the bit that stood at the place `source` names. -/
def MovesBits {α : Type} {n : Nat} (bits : α → Fin n → Bool) (move : α → α) (source : Fin n → Fin n) : Prop :=
  ∀ x i, bits (move x) i = bits x (source i)

section
variable {α : Type} {n : Nat} {bits : α → Fin n → Bool} {move move' : α → α} {source source' : Fin n → Fin n}

theorem MovesBits.comp (h : MovesBits bits move source) (h' : MovesBits bits move' source') :
    MovesBits bits (move' ∘ move) (source ∘ source') := fun x i => (h' (move x) i).trans (h x (source' i))

theorem MovesBits.iterate (h : MovesBits bits move source) (k : Nat) : MovesBits bits move^[k] source^[k] := by
  induction k with
  | zero => exact fun _ _ => rfl
  | succ k ih =>
    rw [Function.iterate_succ, Function.iterate_succ']
    exact h.comp ih

/-- A move under which every bit has come back leaves the bits as they were. -/
theorem MovesBits.bits_eq (h : MovesBits bits move source) (hback : ∀ i, source i = i) (x : α) :
    bits (move x) = bits x :=
  funext fun i => by rw [h, hback]

end

/-- The bits of a byte, bit 0 first. -/
def byteBits (v : Byte) (i : BitIndex) : Bool := v.getLsbD i.val

theorem byteBits_injective : Function.Injective byteBits := fun _ _ h => byte_eq_of_bits (congrFun h)

/-- A byte with the carry above it: the ring of nine bits through which RRA, RLA, RR and RL rotate. -/
def ringBits (x : Byte × Bool) (i : Fin 9) : Bool := if i.val = 8 then x.2 else x.1.getLsbD i.val

theorem ringBits_last (x : Byte × Bool) : ringBits x (Fin.last 8) = x.2 := rfl

theorem ringBits_castSucc (x : Byte × Bool) (i : BitIndex) : ringBits x i.castSucc = byteBits x.1 i :=
  if_neg i.isLt.ne

theorem ringBits_injective : Function.Injective ringBits := by
  intro x y h
  refine Prod.ext (byteBits_injective (funext fun i => ?_)) ?_
  · rw [← ringBits_castSucc, h, ringBits_castSucc]
  · rw [← ringBits_last, h, ringBits_last]

/-! ### The bits of a byte moved by one place, and of one with its nibbles exchanged -/

theorem getLsbD_bitByte (b : Bool) (k : Nat) : (bitByte b).getLsbD k = (decide (k = 0) && b) := by
  cases b with
  | false => simp [bitByte]
  | true => simp [bitByte, BitVec.getLsbD_one]

/-- Each bit is the next higher one, and the highest the bit that enters. -/
theorem byteBits_shiftRight (top : Bool) (v : Byte) (i : BitIndex) :
    byteBits (shiftRight top v) i = ringBits (v, top) (i.castSucc + 1) := by
  simp only [byteBits, ringBits, shiftRight, BitVec.getLsbD_or, BitVec.getLsbD_shiftLeft, BitVec.getLsbD_ushiftRight,
    getLsbD_bitByte]
  fin_cases i <;> simp

/-- Each bit is the next lower one, and the lowest the bit that enters. -/
theorem byteBits_shiftLeft (bottom : Bool) (v : Byte) (i : BitIndex) :
    byteBits (shiftLeft bottom v) i = ringBits (v, bottom) (i.castSucc - 1) := by
  simp only [byteBits, ringBits, shiftLeft, BitVec.getLsbD_or, BitVec.getLsbD_shiftLeft, getLsbD_bitByte]
  fin_cases i <;> simp

theorem byteBits_swapNibbles (v : Byte) (i : BitIndex) : byteBits (swapNibbles v) i = byteBits v (i + 4) := by
  simp only [byteBits, swapNibbles, BitVec.getLsbD_or, BitVec.getLsbD_shiftLeft, BitVec.getLsbD_ushiftRight,
    BitVec.getLsbD_and]
  fin_cases i <;> simp

/-! ### The rotates as moves of a byte and the carry -/

/-- 44_flag_acc_ops.md R152, 46_shift_rotate.md R182: the old carry enters at the top. -/
def rightThroughCarry (x : Byte × Bool) : Byte × Bool := (shiftRight x.2 x.1, x.1.getLsbD 0)

/-- 44_flag_acc_ops.md R153, 46_shift_rotate.md R183: the old carry enters at the bottom. -/
def leftThroughCarry (x : Byte × Bool) : Byte × Bool := (shiftLeft x.2 x.1, x.1.getLsbD 7)

/-- 44_flag_acc_ops.md R154, 46_shift_rotate.md R184: bit 0 enters at the top. -/
def rightCircular (x : Byte × Bool) : Byte × Bool := (shiftRight (x.1.getLsbD 0) x.1, x.1.getLsbD 0)

/-- 44_flag_acc_ops.md R155, 46_shift_rotate.md R185: bit 7 enters at the bottom. -/
def leftCircular (x : Byte × Bool) : Byte × Bool := (shiftLeft (x.1.getLsbD 7) x.1, x.1.getLsbD 7)

/-- 46_shift_rotate.md R188: no bit goes to the carry, which is cleared. -/
def nibbleSwap (x : Byte × Bool) : Byte × Bool := (swapNibbles x.1, false)

theorem movesBits_rightThroughCarry : MovesBits ringBits rightThroughCarry (· + 1) := by
  intro x i
  cases i using Fin.lastCases with
  | last => rfl
  | cast i => rw [ringBits_castSucc, rightThroughCarry, byteBits_shiftRight]

theorem movesBits_leftThroughCarry : MovesBits ringBits leftThroughCarry (· - 1) := by
  intro x i
  cases i using Fin.lastCases with
  | last => rfl
  | cast i => rw [ringBits_castSucc, leftThroughCarry, byteBits_shiftLeft]

/-- Bit 0 enters at the top, so the place above the highest is the lowest: places count modulo 8. -/
theorem movesBits_rightCircular : MovesBits (fun x => byteBits x.1) rightCircular (· + 1) := by
  refine fun x i => (byteBits_shiftRight (x.1.getLsbD 0) x.1 i).trans ?_
  fin_cases i <;> rfl

/-- Bit 7 enters at the bottom, so the place below the lowest is the highest. -/
theorem movesBits_leftCircular : MovesBits (fun x => byteBits x.1) leftCircular (· - 1) := by
  refine fun x i => (byteBits_shiftLeft (x.1.getLsbD 7) x.1 i).trans ?_
  fin_cases i <;> rfl

theorem movesBits_nibbleSwap : MovesBits (fun x => byteBits x.1) nibbleSwap (· + 4) := fun x =>
  byteBits_swapNibbles x.1

/-! ### Operations that move a register and the carry -/

/-- A register and the carry, which an operation may move together. -/
def State.ring (s : State) (r : Reg) : Byte × Bool := (s.read8 r, s.f.c)

/-- The state with the register and the carry set, and the other flags as `flags` gives them. -/
def State.writeRing (s : State) (r : Reg) (flags : Byte → Bool → Flags) (x : Byte × Bool) : State :=
  (s.write8 r x.1).setFlags (flags x.1 x.2)

/-- The operation's whole effect is `move` on the register and the carry, with the other flags as `flags` gives them. -/
structure MovesRing (i : Instr) (r : Reg) (flags : Byte → Bool → Flags) (move : Byte × Bool → Byte × Bool) : Prop where
  carry : ∀ v out, (flags v out).c = out
  exec_eq : ∀ s : State, exec i s = .next (s.writeRing r flags (move (s.ring r)))

theorem writeRing_writeRing (s : State) (r : Reg) (flags : Byte → Bool → Flags) (x y : Byte × Bool) :
    (s.writeRing r flags x).writeRing r flags y = s.writeRing r flags y := by
  simp only [State.writeRing, setFlags_write8, write8_write8, setFlags_setFlags]

theorem read8_writeRing (s : State) (r : Reg) (flags : Byte → Bool → Flags) (x : Byte × Bool) :
    (s.writeRing r flags x).read8 r = x.1 := by
  rw [State.writeRing, read8_setFlags, read8_write8_same]

/-- To write back what the register and the carry hold changes the other flags at most. -/
theorem writeRing_ring (s : State) (r : Reg) (flags : Byte → Bool → Flags) :
    s.writeRing r flags (s.ring r) = s.setFlags (flags (s.read8 r) s.f.c) := by
  simp only [State.writeRing, State.ring, write8_read8]

section
variable {i j : Instr} {r : Reg} {flags : Byte → Bool → Flags} {move move' : Byte × Bool → Byte × Bool}

theorem MovesRing.ring_writeRing (h : MovesRing i r flags move) (s : State) (x : Byte × Bool) :
    (s.writeRing r flags x).ring r = x :=
  Prod.ext (read8_writeRing s r flags x) (h.carry x.1 x.2)

/-- After an operation that wrote the register and the carry, the next one moves what was written. -/
theorem MovesRing.exec_writeRing (h : MovesRing i r flags move) (s : State) (x : Byte × Bool) :
    exec i (s.writeRing r flags x) = .next (s.writeRing r flags (move x)) := by
  rw [h.exec_eq, h.ring_writeRing, writeRing_writeRing]

theorem MovesRing.execList_pair (h : MovesRing i r flags move) (h' : MovesRing j r flags move') (s : State) :
    execList [i, j] s = .next (s.writeRing r flags ((move' ∘ move) (s.ring r))) :=
  (execList_cons (h.exec_eq s) _).trans (execList_cons (h'.exec_writeRing s _) _)

theorem MovesRing.execList_replicate_writeRing (h : MovesRing i r flags move) (s : State) (k : Nat) (x : Byte × Bool) :
    execList (List.replicate k i) (s.writeRing r flags x) = .next (s.writeRing r flags (move^[k] x)) := by
  induction k generalizing x with
  | zero => rfl
  | succ k ih =>
    rw [List.replicate_succ, execList_cons (h.exec_writeRing s x), ih]
    rfl

theorem MovesRing.execList_replicate_succ (h : MovesRing i r flags move) (s : State) (k : Nat) :
    execList (List.replicate (k + 1) i) s = .next (s.writeRing r flags (move^[k + 1] (s.ring r))) :=
  (execList_cons (h.exec_eq s) _).trans (h.execList_replicate_writeRing s k _)

/-- Nine rotates through the carry bring all nine bits back. -/
theorem MovesRing.execList_replicate_nine {source : Fin 9 → Fin 9} (h : MovesRing i r flags move)
    (hbits : MovesBits ringBits move source) (hback : ∀ b, source^[9] b = b) (s : State) :
    execList (List.replicate 9 i) s = .next (s.setFlags (flags (s.read8 r) s.f.c)) := by
  have hring : move^[9] (s.ring r) = s.ring r := ringBits_injective ((hbits.iterate 9).bits_eq hback _)
  rw [h.execList_replicate_succ, hring, writeRing_ring]

/-- A move under which the byte's bits have come back restores the register. -/
theorem read8_writeRing_of_movesBits {source : BitIndex → BitIndex}
    (hbits : MovesBits (fun x => byteBits x.1) move source) (hback : ∀ b, source b = b) (s : State) :
    (s.writeRing r flags (move (s.ring r))).read8 r = s.read8 r :=
  (read8_writeRing s r flags _).trans (byteBits_injective (hbits.bits_eq hback (s.ring r)))

theorem MovesRing.exists_execList_pair {source source' : BitIndex → BitIndex} (h : MovesRing i r flags move)
    (h' : MovesRing j r flags move') (hbits : MovesBits (fun x => byteBits x.1) move source)
    (hbits' : MovesBits (fun x => byteBits x.1) move' source') (hback : ∀ b, source (source' b) = b) (s : State) :
    ∃ t, execList [i, j] s = .next t ∧ t.read8 r = s.read8 r :=
  ⟨_, h.execList_pair h' s, read8_writeRing_of_movesBits (hbits.comp hbits') hback s⟩

theorem MovesRing.exists_execList_replicate_eight {source : BitIndex → BitIndex} (h : MovesRing i r flags move)
    (hbits : MovesBits (fun x => byteBits x.1) move source) (hback : ∀ b, source^[8] b = b) (s : State) :
    ∃ t, execList (List.replicate 8 i) s = .next t ∧ t.read8 r = s.read8 r :=
  ⟨_, h.execList_replicate_succ s 7, read8_writeRing_of_movesBits (hbits.iterate 8) hback s⟩

end

/-! ### The operations, each with its move -/

theorem movesRing_rra : MovesRing .rra .a (fun _ => accRotateFlags) rightThroughCarry := ⟨fun _ _ => rfl, exec_rra⟩

theorem movesRing_rla : MovesRing .rla .a (fun _ => accRotateFlags) leftThroughCarry := ⟨fun _ _ => rfl, exec_rla⟩

theorem movesRing_rrca : MovesRing .rrca .a (fun _ => accRotateFlags) rightCircular := ⟨fun _ _ => rfl, exec_rrca⟩

theorem movesRing_rrla : MovesRing .rrla .a (fun _ => accRotateFlags) leftCircular := ⟨fun _ _ => rfl, exec_rrla⟩

theorem movesRing_rr (r : Reg) : MovesRing (.rr r) r shiftFlags rightThroughCarry := ⟨fun _ _ => rfl, exec_rr r⟩

theorem movesRing_rl (r : Reg) : MovesRing (.rl r) r shiftFlags leftThroughCarry := ⟨fun _ _ => rfl, exec_rl r⟩

theorem movesRing_rrc (r : Reg) : MovesRing (.rrc r) r shiftFlags rightCircular := ⟨fun _ _ => rfl, exec_rrc r⟩

theorem movesRing_rlc (r : Reg) : MovesRing (.rlc r) r shiftFlags leftCircular := ⟨fun _ _ => rfl, exec_rlc r⟩

theorem movesRing_swap (r : Reg) : MovesRing (.swap r) r shiftFlags nibbleSwap := ⟨fun _ _ => rfl, exec_swap r⟩

theorem execList_cpl_cpl (s : State) :
    execList [.cpl, .cpl] s = .next { s with f := ⟨s.f.z, true, true, s.f.c⟩ } := by
  rw [execList_cons (exec_cpl s), execList_cons (exec_cpl _), BitVec.not_not]
  rfl

/-- Settles O24: nine places around the ring, eight around the byte, a place there and back, and four places twice bring
every bit back. -/
theorem rotatesHaveTheirPeriods : Obligations.RotatesHaveTheirPeriods := by
  intro r s
  have hright9 : ∀ b : Fin 9, (· + 1)^[9] b = b := by decide
  have hleft9 : ∀ b : Fin 9, (· - 1)^[9] b = b := by decide
  have hright8 : ∀ b : BitIndex, (· + 1)^[8] b = b := by decide
  have hleft8 : ∀ b : BitIndex, (· - 1)^[8] b = b := by decide
  exact ⟨
    movesRing_rra.execList_replicate_nine movesBits_rightThroughCarry hright9 s,
    movesRing_rla.execList_replicate_nine movesBits_leftThroughCarry hleft9 s,
    ⟨_, (movesRing_rr r).execList_replicate_nine movesBits_rightThroughCarry hright9 s, read8_setFlags s _ r, rfl⟩,
    ⟨_, (movesRing_rl r).execList_replicate_nine movesBits_leftThroughCarry hleft9 s, read8_setFlags s _ r, rfl⟩,
    movesRing_rrca.exists_execList_replicate_eight movesBits_rightCircular hright8 s,
    movesRing_rrla.exists_execList_replicate_eight movesBits_leftCircular hleft8 s,
    (movesRing_rrc r).exists_execList_replicate_eight movesBits_rightCircular hright8 s,
    movesRing_rrla.exists_execList_pair movesRing_rrca movesBits_leftCircular movesBits_rightCircular
      (fun b => add_sub_cancel_right b 1) s,
    (movesRing_rlc r).exists_execList_pair (movesRing_rrc r) movesBits_leftCircular movesBits_rightCircular
      (fun b => add_sub_cancel_right b 1) s,
    (movesRing_swap r).exists_execList_pair (movesRing_swap r) movesBits_nibbleSwap movesBits_nibbleSwap (by decide) s,
    execList_cpl_cpl s⟩

end Sys2Proof.Machine

end
